-- ==== Sys2Proof/Word.lean ====
section
/-! DEFINITION. The word sizes of the Ospatel 2416 and the indexes of its numbered things. -/

namespace Sys2Proof

/-- A byte of the store or of a link frame; a level (R1, 0.5). -/
abbrev Byte := BitVec 8

/-- Two bytes: a duty, a pointer field, a mask of sixteen flags (R196). -/
abbrev Half := BitVec 16

/-- Four bytes: a word of the store, the tick stamp (R1, R166). -/
abbrev Word := BitVec 32

/-- A playback context, P0 to P3 (R41). -/
abbrev Ctx := Fin 4

/-- A channel, CH0 to CH15 (R88). -/
abbrev Chan := Fin 16

/-- An input line, IN0 to IN23 (R127). -/
abbrev Line := Fin 24

/-- An event id, 0 to 31 (R71). -/
abbrev EventId := Fin 32

/-- A set of contexts: bit n is context Pn (R196). -/
abbrev CtxSet := BitVec 4

end Sys2Proof
end

