-- ==== Sys2Proof/Config.lean ====
section
/-! DEFINITION. What the part fixes (sizes and limits of its resources) and the free values: what the
manual leaves open, as constants with no body, so that no proof can see them. -/

namespace Sys2Proof.Config

/-- Bytes of the store (R1). -/
def storeBytes : Nat := 65536

/-- Words of the store (R1). -/
def storeWords : Nat := 16384

/-- Words of the header frame, 0 to 127: no valid target of a pointer field (R23). -/
def headerWords : Nat := 128

/-- Greatest data length of STORE_READ and STORE_PROGRAM in bytes (R9, R11). -/
def transferMax : Nat := 224

/-- Link steps that one resolution may take (R34). -/
def linkSteps : Nat := 15

/-- Reply slots of the outbound queue (R185). -/
def replySlots : Nat := 8

/-- Notice slots of the outbound queue (R185). -/
def noticeSlots : Nat := 24

/-- Places of the pending trigger queue (R153). -/
def queuePlaces : Nat := 16

/-- Greatest LEN of a link frame (R177). -/
def lenMax : Nat := 240

/-- The value of a 16-bit fade that stands for no fade: 65535 is invalid (R24, R61, R103). -/
def noFade : Nat := 65535

/-- A cue's hold of 65535 means "wait for GO" (R24). -/
def holdForGo : Nat := 65535

/-- FREE VALUE (log 9): the number that picks an order among things the manual takes in any order
(R84, R147, R175), applied to the draw counter `State.free`. -/
opaque freeOrder : Nat → Nat

/-- FREE VALUE (log 10): which word of a STORE_PROGRAM a reset interrupts (R21), taken modulo the
program's number of words, applied to the draw counter. -/
opaque interruptedWord : Nat → Nat

/-- FREE VALUE (log 10): whether a byte that an interrupted operation was writing keeps its former
value (R21), applied to the draw counter and the byte's address. -/
opaque interruptedKeeps : Nat → Nat → Bool

end Sys2Proof.Config
end

