-- ==== Sys2Proof/Syntax.lean ====
section
/-! DEFINITION. The commands: one constructor of `Instr` per row of spec/opcode_table.json, with the
row's operands; and `Request`, the host's requests as they stand in a link frame (section 11.3). The
fields of a request are its bytes as they are sent: the owning block checks them (R114, R142, R151). -/

namespace Sys2Proof

/-- A party at the store port, and the owner of a claim: P0 to P3 or LINK (R16, R88). -/
inductive Claimant where
  | ctx (p : Ctx)
  | link
  deriving DecidableEq, Repr

/-- The source of a delivery record: the trigger entry of a line, or a matcher (R153). -/
inductive Source where
  | line (l : Line)
  | matcher (m : Fin 2)
  deriving DecidableEq, Repr

/-- A channel entry of a request or of the header, as bytes (section 11.7.2; its byte 7 is ignored). -/
structure ChannelEntry where
  mode : Byte
  period : Byte
  deadTime : Byte
  safe : Byte
  mask : Byte
  arbitration : Byte
  curve : Byte
  deriving DecidableEq, Repr

/-- A group entry of a request or of the header (section 11.7.1). -/
structure GroupEntry where
  enable : Byte
  report : Byte
  filter : Byte
  deriving DecidableEq, Repr

/-- A trigger entry of a request or of the header (section 11.7.3; its byte 3 is ignored). -/
structure TriggerEntry where
  flags : Byte
  action : Byte
  targets : Byte
  pointer : Half
  fade : Half
  expiry : Half
  deriving DecidableEq, Repr

/-- A matcher entry of a request or of the header (section 11.7.4). -/
structure MatcherEntry where
  flags : Byte
  action : Byte
  targets : Byte
  stepCount : Byte
  steps : Vector Byte 8
  gap : Half
  pointer : Half
  fade : Half
  expiry : Half
  deriving DecidableEq, Repr

/-- A request of the host with the fields of its body (sections 10.7, 11.3). -/
inductive Request where
  | storeRead (address : Half) (length : Byte)
  | storeProgram (word : Half) (data : List Byte)
  | storeEraseFrame (frame : Byte)
  | storeEraseAll
  | setWriteEnable (mask key : Half)
  | go (context : Byte)
  | goWithPointer (context : Byte) (pointer : Half)
  | pause (context : Byte)
  | resume (context : Byte)
  | stop (context : Byte)
  | release (context : Byte) (fade : Half)
  | configContext (context : Byte) (home : Half) (report : Byte)
  | queryContext (context : Byte)
  | postEvent (event : Byte)
  | setCounter (cell value : Byte)
  | queryCounters
  | setLevel (channel level : Byte) (fade : Half) (priority : Byte)
  | releaseLevel (channel : Byte) (fade : Half)
  | queryChannel (channel : Byte)
  | reloadCurves
  | configChannel (channel : Byte) (entry : ChannelEntry)
  | configFault (source mode : Byte)
  | clearFault (source : Byte)
  | configGroup (group : Byte) (entry : GroupEntry)
  | configTrigger (line : Byte) (entry : TriggerEntry)
  | queryTrigger (line : Byte)
  | configMatcher (matcher : Byte) (entry : MatcherEntry)
  | queryQueue
  | setTick (code : Byte)
  | resetPart
  | identify
  | status
  deriving DecidableEq, Repr

/-- The commands of the part: the 67 rows of the table of operations and events. A host request is
the whole request frame arriving at the inbound side (R181, log 4). -/
inductive Instr where
  /-- STORE_READ (R9). -/
  | storeRead (address : Half) (length : Byte)
  /-- STORE_PROGRAM (R11). -/
  | storeProgram (word : Half) (data : List Byte)
  /-- STORE_ERASE_FRAME (R13). -/
  | storeEraseFrame (frame : Byte)
  /-- STORE_ERASE_ALL (R14). -/
  | storeEraseAll
  /-- SET_WRITE_ENABLE (R5). -/
  | setWriteEnable (mask key : Half)
  /-- GO without a pointer (R55). -/
  | go (context : Byte)
  /-- GO with a pointer (R56). -/
  | goWithPointer (context : Byte) (pointer : Half)
  /-- PAUSE (R57). -/
  | pause (context : Byte)
  /-- RESUME (R59). -/
  | resume (context : Byte)
  /-- STOP (R60). -/
  | stop (context : Byte)
  /-- RELEASE (R61). -/
  | release (context : Byte) (fade : Half)
  /-- CONFIG_CONTEXT (R66). -/
  | configContext (context : Byte) (home : Half) (report : Byte)
  /-- QUERY_CONTEXT (R68). -/
  | queryContext (context : Byte)
  /-- POST_EVENT (R80). -/
  | postEvent (event : Byte)
  /-- SET_COUNTER (R85). -/
  | setCounter (cell value : Byte)
  /-- QUERY_COUNTERS (R86). -/
  | queryCounters
  /-- SET_LEVEL (R103). -/
  | setLevel (channel level : Byte) (fade : Half) (priority : Byte)
  /-- RELEASE_LEVEL (R104). -/
  | releaseLevel (channel : Byte) (fade : Half)
  /-- QUERY_CHANNEL (R105). -/
  | queryChannel (channel : Byte)
  /-- RELOAD_CURVES (R102). -/
  | reloadCurves
  /-- CONFIG_CHANNEL (R114, R106, R107). -/
  | configChannel (channel : Byte) (entry : ChannelEntry)
  /-- CONFIG_FAULT (R125). -/
  | configFault (source mode : Byte)
  /-- CLEAR_FAULT (R124). -/
  | clearFault (source : Byte)
  /-- CONFIG_GROUP (R131). -/
  | configGroup (group : Byte) (entry : GroupEntry)
  /-- CONFIG_TRIGGER (R142, R143). -/
  | configTrigger (line : Byte) (entry : TriggerEntry)
  /-- QUERY_TRIGGER (R144). -/
  | queryTrigger (line : Byte)
  /-- CONFIG_MATCHER (R151, R152). -/
  | configMatcher (matcher : Byte) (entry : MatcherEntry)
  /-- QUERY_QUEUE (R162). -/
  | queryQueue
  /-- SET_TICK (R167). -/
  | setTick (code : Byte)
  /-- RESET_PART (R170). -/
  | resetPart
  /-- IDENTIFY (R193). -/
  | identify
  /-- STATUS (R194). -/
  | status
  /-- Completion of a granted STORE_READ (R10). -/
  | storeReadComplete
  /-- Completion of a granted STORE_PROGRAM (R12). -/
  | storeProgramComplete
  /-- Completion of a granted STORE_ERASE_FRAME (R13). -/
  | eraseFrameComplete
  /-- Completion of a granted STORE_ERASE_ALL (R14). -/
  | eraseAllComplete
  /-- End of the curve load of a RELOAD_CURVES (R101, R102). -/
  | curveLoadComplete
  /-- Completion of a LINK_STEP fetch read (R33). -/
  | linkStepReadComplete
  /-- Completion of a PROBE fetch read (R35). -/
  | probeReadComplete
  /-- Completion of a RECORD fetch read (R36). -/
  | recordReadComplete
  /-- The show clock produces a tick (R165). -/
  | tick
  /-- A tick arrives at the playback engine (R48). -/
  | tickArrivalPlay
  /-- A tick arrives at the mixer (R96). -/
  | tickArrivalMix
  /-- A tick arrives at TRIG (R149, R160). -/
  | tickArrivalTrig
  /-- The tick at context p with which its fade remaining reaches 0 (R49). -/
  | fadeComplete (p : Ctx)
  /-- The tick at context p with which its hold remaining reaches 0 (R50). -/
  | holdExpiry (p : Ctx)
  /-- The tick at context p with which its timeout remaining reaches 0 (R77). -/
  | waitTimeout (p : Ctx)
  /-- The tick at the mixer with which this claim's release fade ends (R96). -/
  | releaseFadeEnd (channel : Chan) (claimant : Claimant)
  /-- The tick at TRIG with which this matcher's attempt lapses (R149). -/
  | gapLapse (matcher : Fin 2)
  /-- The tick at TRIG with which this source's record expires (R160). -/
  | recordExpiry (source : Source)
  /-- A post reaches a context (R72). -/
  | post (p : Ctx) (event : EventId)
  /-- TRIG takes the oldest phase report of a context (R155, R198). -/
  | phaseReport (p : Ctx)
  /-- A change of a line is accepted: the sample that completes the run (R127, R128). -/
  | acceptedChange (line : Line) (high : Bool)
  /-- The first sample of a line after start-up (R129). -/
  | firstSample (line : Line) (high : Bool)
  /-- A sample of a fault pin that differs from the source's input level (R118, R119). -/
  | faultInputChange (source : Fin 2) (active : Bool)
  /-- A channel's period start (R110). -/
  | periodStart (channel : Chan)
  /-- A character arrives on RXD, its stop bit correct or low (R177, R179). -/
  | byteArrival (byte : Byte) (stopBit : Bool)
  /-- The gap timer expires inside a frame (R179). -/
  | gapExpiry
  /-- The last byte of the frame being sent leaves (R186). -/
  | frameTransmitted
  /-- The HOLD input takes a level (R188). -/
  | holdChange (high : Bool)
  /-- The buffered request moves into service (R183). -/
  | bufferedRequestMove
  /-- The supply drops below its working level (R169). -/
  | powerReset
  /-- RESET_N goes low (R169). -/
  | pinReset
  /-- No cause holds the reset any longer; BAUD has this level (R169, R176). -/
  | resetEnd (baudHigh : Bool)
  /-- The start-up read of the header frame ends (R171, R172). -/
  | headerReadComplete
  /-- The start-up curve load ends, and start-up with it (R173, R174). -/
  | startUpCurveLoadComplete
  /-- A sample of a line that completes no run (R127). -/
  | lineSample (line : Line) (high : Bool)
  deriving DecidableEq, Repr

end Sys2Proof
end

