-- ==== Sys2Proof/WellFormed.lean ====
section
/-! DEFINITION. What a well-formed command is: the bounds its operands' types do not carry. Every
byte and half of a request's body may hold any value (the owning block checks it); only the length of
STORE_PROGRAM's data is bounded by the link frame that carries it (R177, section 11.3). -/

namespace Sys2Proof

/-- The greatest number of data bytes that a STORE_PROGRAM frame can carry: LEN is at most 240, and
two bytes of the body are the word index (section 11.3). -/
def programDataMax : Nat := Config.lenMax - 2

/-- A request that a link frame can carry. -/
def Request.wf (r : Request) : Bool :=
  match r with
  | .storeProgram _ data => data.length ≤ programDataMax
  | .storeRead .. | .storeEraseFrame _ | .storeEraseAll | .setWriteEnable .. | .go _
  | .goWithPointer .. | .pause _ | .resume _ | .stop _ | .release .. | .configContext ..
  | .queryContext _ | .postEvent _ | .setCounter .. | .queryCounters | .setLevel ..
  | .releaseLevel .. | .queryChannel _ | .reloadCurves | .configChannel .. | .configFault ..
  | .clearFault _ | .configGroup .. | .configTrigger .. | .queryTrigger _ | .configMatcher ..
  | .queryQueue | .setTick _ | .resetPart | .identify | .status => true

/-- A well-formed command: its operands are of the size the table's row has for them. -/
def Instr.wf (i : Instr) : Bool :=
  match i with
  | .storeProgram _ data => data.length ≤ programDataMax
  | .storeRead .. | .storeEraseFrame _ | .storeEraseAll | .setWriteEnable .. | .go _
  | .goWithPointer .. | .pause _ | .resume _ | .stop _ | .release .. | .configContext ..
  | .queryContext _ | .postEvent _ | .setCounter .. | .queryCounters | .setLevel ..
  | .releaseLevel .. | .queryChannel _ | .reloadCurves | .configChannel .. | .configFault ..
  | .clearFault _ | .configGroup .. | .configTrigger .. | .queryTrigger _ | .configMatcher ..
  | .queryQueue | .setTick _ | .resetPart | .identify | .status
  | .storeReadComplete | .storeProgramComplete | .eraseFrameComplete | .eraseAllComplete
  | .curveLoadComplete | .linkStepReadComplete | .probeReadComplete | .recordReadComplete
  | .tick | .tickArrivalPlay | .tickArrivalMix | .tickArrivalTrig | .fadeComplete _
  | .holdExpiry _ | .waitTimeout _ | .releaseFadeEnd .. | .gapLapse _ | .recordExpiry _
  | .post .. | .phaseReport _ | .acceptedChange .. | .firstSample .. | .faultInputChange ..
  | .periodStart _ | .byteArrival .. | .gapExpiry | .frameTransmitted | .holdChange _
  | .bufferedRequestMove | .powerReset | .pinReset | .resetEnd _ | .headerReadComplete
  | .startUpCurveLoadComplete | .lineSample .. => true

end Sys2Proof
end

