-- ==== Sys2Proof/Decode.lean ====
section
/-! DEFINITION. Decoding. The table of operations gives bits for no row, so `decodeTableWord` answers
none. What the part itself decodes is the kind and body of a link frame (sections 11.2, 11.3):
`Request.decode`, with the encoder `Request.kind`, `Request.body` beside it. -/

namespace Sys2Proof

/-- The low byte of a two-byte quantity (R196: least significant byte first). -/
def lowByte (h : Half) : Byte := h.setWidth 8

/-- The high byte of a two-byte quantity. -/
def highByte (h : Half) : Byte := (h >>> 8).setWidth 8

/-- A two-byte quantity from its low and high byte (R196). -/
def halfOf (lo hi : Byte) : Half := hi ++ lo

/-- A word of the store from its four bytes, lowest address first (R196). -/
def wordOf (b0 b1 b2 b3 : Byte) : Word := b3 ++ b2 ++ b1 ++ b0

/-- The command that a word of the table spells: no row of the table gives bits (log 28). -/
def decodeTableWord (_nbits _w : Nat) : Option Instr := none

/-- The KIND code of a request (section 11.2.1). -/
def Request.kind (r : Request) : Byte :=
  match r with
  | .storeRead .. => 0x01
  | .storeProgram .. => 0x02
  | .storeEraseFrame _ => 0x03
  | .storeEraseAll => 0x04
  | .setWriteEnable .. => 0x05
  | .go _ => 0x06
  | .goWithPointer .. => 0x06
  | .pause _ => 0x07
  | .resume _ => 0x08
  | .stop _ => 0x09
  | .release .. => 0x0A
  | .configContext .. => 0x0B
  | .postEvent _ => 0x0C
  | .setCounter .. => 0x0D
  | .queryCounters => 0x0E
  | .setLevel .. => 0x0F
  | .releaseLevel .. => 0x10
  | .queryChannel _ => 0x11
  | .reloadCurves => 0x12
  | .configChannel .. => 0x13
  | .configFault .. => 0x14
  | .clearFault _ => 0x15
  | .configGroup .. => 0x16
  | .configTrigger .. => 0x17
  | .queryTrigger _ => 0x18
  | .configMatcher .. => 0x19
  | .queryQueue => 0x1A
  | .setTick _ => 0x1B
  | .resetPart => 0x1C
  | .identify => 0x1D
  | .status => 0x1E
  | .queryContext _ => 0x1F

/-- A trigger entry as its ten bytes (section 11.7.3); the ignored byte 3 is sent as 0. -/
def TriggerEntry.bytes (e : TriggerEntry) : List Byte :=
  [e.flags, e.action, e.targets, 0, lowByte e.pointer, highByte e.pointer,
   lowByte e.fade, highByte e.fade, lowByte e.expiry, highByte e.expiry]

/-- The body of a request (section 11.3). A byte that the layout marks ignored is sent as 0. -/
def Request.body (r : Request) : List Byte :=
  match r with
  | .storeRead a n => [lowByte a, highByte a, n]
  | .storeProgram w d => lowByte w :: highByte w :: d
  | .storeEraseFrame f => [f]
  | .storeEraseAll => []
  | .setWriteEnable m k => [lowByte m, highByte m, lowByte k, highByte k]
  | .go c => [c]
  | .goWithPointer c p => [c, lowByte p, highByte p]
  | .pause c => [c]
  | .resume c => [c]
  | .stop c => [c]
  | .release c f => [c, lowByte f, highByte f]
  | .configContext c h r => [c, lowByte h, highByte h, r]
  | .queryContext c => [c]
  | .postEvent e => [e]
  | .setCounter c v => [c, v]
  | .queryCounters => []
  | .setLevel c l f p => [c, l, lowByte f, highByte f, p]
  | .releaseLevel c f => [c, lowByte f, highByte f]
  | .queryChannel c => [c]
  | .reloadCurves => []
  | .configChannel c e =>
      [c, e.mode, e.period, e.deadTime, e.safe, e.mask, e.arbitration, e.curve, 0]
  | .configFault s m => [s, m]
  | .clearFault s => [s]
  | .configGroup g e => [g, e.enable, e.report, e.filter]
  | .configTrigger l e => l :: e.bytes
  | .queryTrigger l => [l]
  | .configMatcher m e =>
      [m, e.flags, e.action, e.targets, e.stepCount] ++ e.steps.toList ++
      [lowByte e.gap, highByte e.gap, lowByte e.pointer, highByte e.pointer,
       lowByte e.fade, highByte e.fade, lowByte e.expiry, highByte e.expiry]
  | .queryQueue => []
  | .setTick c => [c]
  | .resetPart => []
  | .identify => []
  | .status => []

/-- What the kind and length checks of a frame give (R178, checks 2 and 3). -/
inductive DecodedFrame where
  | request (r : Request)
  | badKind
  | badLength
  deriving DecidableEq, Repr

/-- A frame's kind and body as a request, or the failed check (R178; kinds and body lengths of
sections 11.2.1 and 11.3). A kind that is no request's is BAD_KIND; a body of a length that the kind
does not allow is BAD_LENGTH. -/
def Request.decode (kind : Byte) (body : List Byte) : DecodedFrame :=
  match kind.toNat with
  | 0x01 => match body with
      | [a0, a1, n] => .request (.storeRead (halfOf a0 a1) n)
      | _ => .badLength
  | 0x02 => match body with
      | w0 :: w1 :: data => .request (.storeProgram (halfOf w0 w1) data)
      | _ => .badLength
  | 0x03 => match body with
      | [f] => .request (.storeEraseFrame f)
      | _ => .badLength
  | 0x04 => match body with
      | [] => .request .storeEraseAll
      | _ => .badLength
  | 0x05 => match body with
      | [m0, m1, k0, k1] => .request (.setWriteEnable (halfOf m0 m1) (halfOf k0 k1))
      | _ => .badLength
  | 0x06 => match body with
      | [c] => .request (.go c)
      | [c, p0, p1] => .request (.goWithPointer c (halfOf p0 p1))
      | _ => .badLength
  | 0x07 => match body with
      | [c] => .request (.pause c)
      | _ => .badLength
  | 0x08 => match body with
      | [c] => .request (.resume c)
      | _ => .badLength
  | 0x09 => match body with
      | [c] => .request (.stop c)
      | _ => .badLength
  | 0x0A => match body with
      | [c, f0, f1] => .request (.release c (halfOf f0 f1))
      | _ => .badLength
  | 0x0B => match body with
      | [c, h0, h1, r] => .request (.configContext c (halfOf h0 h1) r)
      | _ => .badLength
  | 0x0C => match body with
      | [e] => .request (.postEvent e)
      | _ => .badLength
  | 0x0D => match body with
      | [c, v] => .request (.setCounter c v)
      | _ => .badLength
  | 0x0E => match body with
      | [] => .request .queryCounters
      | _ => .badLength
  | 0x0F => match body with
      | [c, l, f0, f1, p] => .request (.setLevel c l (halfOf f0 f1) p)
      | _ => .badLength
  | 0x10 => match body with
      | [c, f0, f1] => .request (.releaseLevel c (halfOf f0 f1))
      | _ => .badLength
  | 0x11 => match body with
      | [c] => .request (.queryChannel c)
      | _ => .badLength
  | 0x12 => match body with
      | [] => .request .reloadCurves
      | _ => .badLength
  | 0x13 => match body with
      | [c, m, p, d, s, k, a, v, _] => .request (.configChannel c ⟨m, p, d, s, k, a, v⟩)
      | _ => .badLength
  | 0x14 => match body with
      | [s, m] => .request (.configFault s m)
      | _ => .badLength
  | 0x15 => match body with
      | [s] => .request (.clearFault s)
      | _ => .badLength
  | 0x16 => match body with
      | [g, e, r, f] => .request (.configGroup g ⟨e, r, f⟩)
      | _ => .badLength
  | 0x17 => match body with
      | [l, f, a, t, _, p0, p1, d0, d1, x0, x1] =>
          .request (.configTrigger l ⟨f, a, t, halfOf p0 p1, halfOf d0 d1, halfOf x0 x1⟩)
      | _ => .badLength
  | 0x18 => match body with
      | [l] => .request (.queryTrigger l)
      | _ => .badLength
  | 0x19 => match body with
      | [m, f, a, t, n, s0, s1, s2, s3, s4, s5, s6, s7, g0, g1, p0, p1, d0, d1, x0, x1] =>
          .request (.configMatcher m ⟨f, a, t, n, #v[s0, s1, s2, s3, s4, s5, s6, s7],
            halfOf g0 g1, halfOf p0 p1, halfOf d0 d1, halfOf x0 x1⟩)
      | _ => .badLength
  | 0x1A => match body with
      | [] => .request .queryQueue
      | _ => .badLength
  | 0x1B => match body with
      | [c] => .request (.setTick c)
      | _ => .badLength
  | 0x1C => match body with
      | [] => .request .resetPart
      | _ => .badLength
  | 0x1D => match body with
      | [] => .request .identify
      | _ => .badLength
  | 0x1E => match body with
      | [] => .request .status
      | _ => .badLength
  | 0x1F => match body with
      | [c] => .request (.queryContext c)
      | _ => .badLength
  | _ => .badKind

/-- The sum check of a frame (R178, check 1; section 11.2): the 8-bit sum of these bytes. -/
def byteSum (bytes : List Byte) : Byte := bytes.foldl (· + ·) 0

/-- A link frame's bytes from its kind and body: SYNC, LEN, KIND, body, CHECK (section 11.2). -/
def frameBytes (kind : Byte) (body : List Byte) : List Byte :=
  let len : Byte := BitVec.ofNat 8 body.length
  0xC5 :: len :: kind :: body ++ [-(byteSum (len :: kind :: body))]

/-- The bytes of the frame that carries a request. -/
def Request.frame (r : Request) : List Byte := frameBytes r.kind r.body

/-- A trigger entry from the ten bytes at an offset of a byte source (section 11.7.3). -/
def TriggerEntry.at (byte : Nat → Byte) (n : Nat) : TriggerEntry :=
  ⟨byte n, byte (n + 1), byte (n + 2), halfOf (byte (n + 4)) (byte (n + 5)),
   halfOf (byte (n + 6)) (byte (n + 7)), halfOf (byte (n + 8)) (byte (n + 9))⟩

/-- A channel entry from the eight bytes at an offset (section 11.7.2). -/
def ChannelEntry.at (byte : Nat → Byte) (n : Nat) : ChannelEntry :=
  ⟨byte n, byte (n + 1), byte (n + 2), byte (n + 3), byte (n + 4), byte (n + 5), byte (n + 6)⟩

/-- A group entry from the three bytes at an offset (section 11.7.1). -/
def GroupEntry.at (byte : Nat → Byte) (n : Nat) : GroupEntry :=
  ⟨byte n, byte (n + 1), byte (n + 2)⟩

/-- A matcher entry from the twenty bytes at an offset (section 11.7.4). -/
def MatcherEntry.at (byte : Nat → Byte) (n : Nat) : MatcherEntry :=
  ⟨byte n, byte (n + 1), byte (n + 2), byte (n + 3), Vector.ofFn fun i => byte (n + 4 + i.val),
   halfOf (byte (n + 12)) (byte (n + 13)), halfOf (byte (n + 14)) (byte (n + 15)),
   halfOf (byte (n + 16)) (byte (n + 17)), halfOf (byte (n + 18)) (byte (n + 19))⟩

end Sys2Proof
end

