-- ==== Sys2Proof/Machine/State.lean ====
section
/-! DEFINITION. The state of the part, block by block (section 0.2), as plain data, and its value right
after reset. Items that the manual gives to some phases of a context only are carried by those phases
(log 24). -/

namespace Sys2Proof.Machine

/-! ### Outcomes -/

/-- The part stops at nothing (log 27): every bad request, bad record and fault input has a next
state. There is no fault. -/
inductive Fault where
  deriving DecidableEq, Repr

/-- Why a command has no next state. -/
inductive Refusal where
  /-- Raised by an arm of `exec` that has no meaning yet. Safe. -/
  | notModelled (mnemonic : String)
  /-- Raised by the meaning of a command that names an event of the part which the rules exclude in
  this state, such as the completion of a read when no such read is in progress (log 5). Safe: nothing
  can be proved about a step that cannot occur. -/
  | cannotOccur (mnemonic : String)
  deriving DecidableEq, Repr

/-! ### Codes (section 11.2.1) -/

/-- Refusal reasons (R192). -/
inductive Reason where
  | checksum | truncated | badKind | badLength | badField | starting | busy | protected_ | locked
  | key | state | faulted | slaved | noCue | faultActive
  deriving DecidableEq, Repr

/-- Phases of a context (R41). -/
inductive Phase where
  | idle | fetch | fade | hold | wait | paused | releasing | faulted
  deriving DecidableEq, Repr

/-- Context fault reasons (R38). -/
inductive FaultReason where
  | blankCue | badRecord | badPointer | linkDepth
  deriving DecidableEq, Repr

/-- Ways into IDLE (R63). -/
inductive Way where
  | ended | stopped | released
  deriving DecidableEq, Repr

/-- Actions of trigger entries and matchers (R132, R146). -/
inductive Action where
  | go | release | stop | event
  deriving DecidableEq, Repr

/-- Reset causes (R169). -/
inductive ResetCause where
  | power | pin | request
  deriving DecidableEq, Repr

/-- Link rates (R176): 115,200 and 1,000,000 bit/s. -/
inductive LinkRate where
  | slow | fast
  deriving DecidableEq, Repr

/-- Channel modes (R109). -/
inductive ChannelMode where
  | off | single | pair
  deriving DecidableEq, Repr

/-- Arbitration modes (R97). -/
inductive Arbitration where
  | htp | priority
  deriving DecidableEq, Repr

/-- Fault source modes (R119). -/
inductive FaultMode where
  | latch | follow
  deriving DecidableEq, Repr

/-- The senses of a trigger entry (R132). -/
inductive Sense where
  | edge | level
  deriving DecidableEq, Repr

/-- Delivery modes (R132). -/
inductive DeliveryMode where
  | fixed | firstIdle
  deriving DecidableEq, Repr

/-- Outcomes of a firing (R138, R150). -/
inductive FiringOutcome where
  | posted | appended | coalesced | missed
  deriving DecidableEq, Repr

/-- Store operations of a STORE_DONE notice (R15). -/
inductive DoneOp where
  | program | eraseFrame | eraseAll
  deriving DecidableEq, Repr

/-! ### STORE -/

/-- The store array: (address, byte) pairs, addresses strictly rising, no entry 0xFF; an unlisted
address reads 0xFF, as erased (R1; log 1). -/
abbrev Memory := List Host.Cell

/-- The link's store operation in progress (R8, R102). -/
inductive LinkOp where
  | read (address : Half) (length : Byte)
  | program (word : Nat) (data : List Byte)
  | eraseFrame (frame : Nat)
  | eraseAll
  | reloadCurves
  deriving DecidableEq, Repr

/-- The read kind of a resolution (R31); a RECORD read goes with the probed lead word. -/
inductive ReadKind where
  | linkStep
  | probe
  | record (lead : Word)
  deriving DecidableEq, Repr

/-- The operation in progress at the store port (R16): a fetch read, or the link's store operation.
A fetch read whose context has withdrawn its request goes on with `live` false (R19, R44). -/
inductive PortOp where
  | fetch (p : Ctx) (kind : ReadKind) (word : Nat) (live : Bool)
  | link
  deriving DecidableEq, Repr

/-- The Show Store (chapter 1). -/
structure Store where
  /-- The array (R1). -/
  cells : Memory
  /-- The live write-enable mask: bit b set, bank b writable (R4). -/
  mask : Half
  /-- The lock-active flag (R6). -/
  lockActive : Bool
  /-- The operation in progress at the port (R16). -/
  port : Option PortOp
  /-- The grant order, first to last (R17). -/
  order : List Claimant
  /-- The link store operation in progress (R8). -/
  linkOp : Option LinkOp
  deriving DecidableEq, Repr

/-! ### PLAY -/

/-- A wait block (R26). -/
structure WaitBlock where
  event : EventId
  timeout : Nat
  pointer : Half
  deriving DecidableEq, Repr

/-- A loop block (R27). -/
structure LoopBlock where
  cell : Fin 16
  reload : Byte
  pointer : Half
  deriving DecidableEq, Repr

/-- A decoded cue (R37). Flags W, L and P are the presence of their blocks; `releaseOthers` is X. -/
structure Cue where
  /-- The cue's first word index. -/
  word : Nat
  wait : Option WaitBlock
  loop : Option LoopBlock
  post : Option EventId
  releaseOthers : Bool
  priority : Fin 8
  levels : List (Chan × Byte)
  fade : Nat
  hold : Nat
  next : Half
  deriving DecidableEq, Repr

/-- The resolution state of a context in FETCH (R31). The fetch request follows from it: the count of
words is 1, 1, or the length of the probed lead word. -/
structure Resolution where
  position : Nat
  kind : ReadKind
  steps : Nat
  deriving DecidableEq, Repr

/-- A wait condition (R41): GO, or EVENT with the timeout remaining (0: no timeout). -/
inductive WaitCondition where
  | go
  | event (id : EventId) (timeout : Nat) (pointer : Half)
  deriving DecidableEq, Repr

/-- Where a running or paused cue stands: FADE, HOLD or WAIT with its count (R41). -/
inductive CuePhase where
  | fade (remaining : Nat)
  | hold (remaining : Nat)
  | wait (condition : WaitCondition)
  deriving DecidableEq, Repr

/-- What a context is doing, with the items of its record that are present in that phase (R41). -/
inductive Activity where
  | idle
  | fetch (resolution : Resolution) (pausePending : Bool)
  | running (cue : Cue) (at_ : CuePhase)
  | paused (cue : Cue) (saved : CuePhase)
  | releasing
  | faulted (reason : FaultReason) (word : Nat)
  deriving DecidableEq, Repr

/-- A playback context's record (R41). -/
structure Context where
  activity : Activity
  /-- The current cue pointer (R41). -/
  current : Option Nat
  /-- The arrival set (R72). -/
  arrivals : BitVec 32
  /-- The home pointer (R66). -/
  home : Half
  /-- The report flag (R69). -/
  report : Bool
  deriving DecidableEq, Repr

/-! ### MIX -/

/-- A claim; its channel and claimant are where it stands (R88). -/
structure Claim where
  present : Byte
  start : Byte
  target : Byte
  total : Nat
  elapsed : Nat
  priority : Fin 8
  stamp : Nat
  releasing : Bool
  deriving DecidableEq, Repr

/-- A channel's claim set: at most one claim per claimant (R88). -/
structure ClaimSet where
  ctx : Vector (Option Claim) 4
  link : Option Claim
  deriving DecidableEq, Repr

/-- A channel in the mixer (R89, R97, R100, R107). -/
structure MixChannel where
  claims : ClaimSet
  stampCounter : Nat
  arbitration : Arbitration
  curve : Fin 4
  secondary : Bool
  /-- The effective level (R97). -/
  level : Byte
  /-- The duty last handed (R100). -/
  dutyLast : Half
  deriving DecidableEq, Repr

/-- A slot of the curve RAM: linear, or a loaded table (R100). -/
abbrev CurveSlot := Option (Vector Half 256)

/-- The Channel Mixer (chapter 5). -/
structure Mixer where
  channels : Vector MixChannel 16
  /-- The held set (R94). -/
  held : CtxSet
  /-- Curve RAM slots 1, 2, 3 (R100). -/
  curves : Vector CurveSlot 3
  deriving DecidableEq, Repr

/-! ### OUT -/

/-- The buffered fields of a channel's output record (R109). -/
structure OutSettings where
  mode : ChannelMode
  period : Fin 4
  deadTime : Byte
  duty : Half
  deriving DecidableEq, Repr

/-- A channel's configuration, as CONFIG_CHANNEL or a header entry gives it (section 6.3). -/
structure ChannelConfig where
  mode : ChannelMode
  period : Fin 4
  deadTime : Byte
  /-- The safe state: true is ACTIVE. -/
  safe : Bool
  mask : BitVec 2
  arbitration : Arbitration
  curve : Fin 4
  deriving DecidableEq, Repr

/-- A channel's output record (R109). -/
structure OutChannel where
  buffered : OutSettings
  active : OutSettings
  /-- The safe state: true is ACTIVE. -/
  safe : Bool
  mask : BitVec 2
  /-- The shutdown state: true is SHUTDOWN. -/
  shutdown : Bool
  paired : Bool
  /-- The configuration taken from the header, until start-up ends (R126; log 18). -/
  loaded : Option ChannelConfig
  deriving DecidableEq, Repr

/-- A fault source (R118). -/
structure FaultSource where
  mode : FaultMode
  latch : Bool
  input : Bool
  deriving DecidableEq, Repr

/-- The Output Stage (chapter 6). -/
structure Output where
  channels : Vector OutChannel 16
  sources : Vector FaultSource 2
  deriving DecidableEq, Repr

/-! ### TRIG -/

/-- An input line's filter (R127, R129); `high` is the filtered level. -/
structure LineFilter where
  high : Bool
  run : Nat
  sampled : Bool
  deriving DecidableEq, Repr

/-- A group (R130). -/
structure Group where
  enable : Bool
  report : Bool
  filter : Nat
  deriving DecidableEq, Repr

/-- What a firing delivers: the fields that trigger entries and matchers share (R132, R146). -/
structure Firing where
  action : Action
  mode : DeliveryMode
  targets : CtxSet
  pointer : Option Half
  fade : Half
  expiry : Half
  deriving DecidableEq, Repr

/-- The configuration of a trigger entry (R132). -/
structure TriggerConfig where
  enabled : Bool
  activeLow : Bool
  sense : Sense
  firing : Firing
  deriving DecidableEq, Repr

/-- A trigger entry (R132). -/
structure Trigger where
  config : TriggerConfig
  coalesced : Bool
  missed : Bool
  resting : Bool
  heldBy : CtxSet
  deriving DecidableEq, Repr

/-- The configuration of a matcher (R146); a step is a byte: bits 0-6 line, bit 7 set for FALLING. -/
structure MatcherConfig where
  enabled : Bool
  stepCount : Nat
  steps : Vector Byte 8
  gap : Nat
  firing : Firing
  deriving DecidableEq, Repr

/-- A sequence matcher (R146). -/
structure Matcher where
  config : MatcherConfig
  progress : Nat
  gapRemaining : Nat
  coalesced : Bool
  missed : Bool
  deriving DecidableEq, Repr

/-- What a delivery record delivers (R154). -/
inductive Delivery where
  | go (pointer : Option Half)
  | release (fade : Nat)
  | stop
  deriving DecidableEq, Repr

/-- A delivery record (R154). -/
structure DeliveryRecord where
  source : Source
  delivery : Delivery
  mode : DeliveryMode
  remaining : CtxSet
  /-- The expiry remaining, or no expiry. -/
  expiry : Option Nat
  taken : Bool
  deriving DecidableEq, Repr

/-- The Input and Trigger Unit (chapters 7 and 8). -/
structure TriggerUnit where
  lines : Vector LineFilter 24
  groups : Vector Group 3
  triggers : Vector Trigger 24
  matchers : Vector Matcher 2
  /-- The pending trigger queue, oldest first (R153). -/
  queue : List DeliveryRecord
  /-- TRIG's knowledge of each context's phase (R155). -/
  known : Vector Phase 4
  deriving DecidableEq, Repr

/-! ### CLK -/

/-- The course from a reset to running (R164, R169, R171): held in reset, STARTING with the header
being read, STARTING with the curves being loaded, RUNNING. -/
inductive Stage where
  | inReset (cause : ResetCause)
  | readingHeader
  | loadingCurves (headerValid : Bool)
  | running
  deriving DecidableEq, Repr

/-- The Show Clock (R164). -/
structure Clock where
  stage : Stage
  tickCode : Fin 4
  /-- The tick code of the interval that is running (R167; log 26). -/
  intervalCode : Fin 4
  stamp : Word
  cause : ResetCause
  resetPending : Bool
  deriving DecidableEq, Repr

/-! ### LINK -/

/-- The receiver (R177): its state, the bytes kept so far, the body bytes to come, the running sum. -/
inductive Receiver where
  | hunt
  | len
  | kind (len sum : Byte)
  | body (len kind : Byte) (got : List Byte) (left : Nat) (sum : Byte)
  | check (len kind : Byte) (got : List Byte) (sum : Byte)
  deriving DecidableEq, Repr

/-- A frame at the inbound side: a request, or a refused frame with its reason and echoed kind (R178). -/
inductive InFrame where
  | request (r : Request)
  | refused (reason : Reason) (kind : Byte)
  deriving DecidableEq, Repr

/-- What a STATUS reply reports (R194). -/
structure StatusInfo where
  cause : ResetCause
  tickCode : Fin 4
  stamp : Word
  lockActive : Bool
  mask : Half
  linkOpKind : Byte
  phases : Vector Phase 4
  sources : Vector FaultSource 2
  shutdown : BitVec 16
  records : Nat
  notices : Nat
  replies : Nat
  buffered : Bool
  dropped : Bool
  overflow : Bool
  deriving DecidableEq, Repr

/-- Replies (section 11.4): each query's reply holds what it reports as it stood. -/
inductive Reply where
  | ack (kind : Byte)
  | refuse (kind : Byte) (reason : Reason)
  | identity (rate : LinkRate)
  | status (info : StatusInfo)
  | storeData (address : Half) (bytes : List Byte)
  | contextInfo (p : Ctx) (context : Context)
  | channelInfo (channel : Chan) (info : MixChannel) (held : CtxSet)
  | triggerInfo (line : Line) (trigger : Trigger) (high active groupEnable queued : Bool)
  | counterInfo (cells : Vector Byte 16)
  | queueInfo (records : List DeliveryRecord) (matchers : Vector Matcher 2)
  deriving DecidableEq, Repr

/-- Notices (sections 10.8, 11.5), without the tick stamp that every notice carries. -/
inductive Notice where
  | started (cause : ResetCause) (headerValid lockActive : Bool)
  | storeDone (op : DoneOp) (subject : Nat) (mismatch : Option Nat)
  | cueStarted (p : Ctx) (word : Nat) (paused : Bool)
  | contextIdle (p : Ctx) (way : Way) (last : Option Nat)
  | contextFault (p : Ctx) (reason : FaultReason) (word : Nat) (current : Option Nat)
  | input (line : Line) (high : Bool)
  | triggerMissed (source : Source) (action : Action)
  | triggerExpired (source : Source) (action : Action) (remaining : CtxSet)
  | triggerRefused (source : Source) (p : Ctx) (action : Action) (reason : Reason)
  | matched (matcher : Fin 2) (action : Action) (outcome : FiringOutcome)
  | fault (source : Fin 2) (asserted : Bool) (channels : BitVec 16)
  deriving DecidableEq, Repr

/-- A frame of the outbound queue; a notice with its tick stamp (R185). -/
inductive OutFrame where
  | reply (r : Reply)
  | notice (stamp : Word) (n : Notice)
  deriving DecidableEq, Repr

/-- The Host Link (chapter 10). -/
structure Link where
  receiver : Receiver
  /-- The request in service (R181). -/
  service : Option InFrame
  /-- The buffered request (R181). -/
  buffered : Option InFrame
  /-- The outbound queue, oldest first (R185). -/
  outbound : List OutFrame
  /-- Whether the oldest frame is being sent (R186). -/
  sending : Bool
  /-- The HOLD input (R188). -/
  hold : Bool
  rate : LinkRate
  /-- The request-dropped flag (R191). -/
  dropped : Bool
  /-- The notice-overflow flag (R191). -/
  overflow : Bool
  deriving DecidableEq, Repr

/-! ### Between the blocks, and the whole -/

/-- A phase report on its way to TRIG (R42). -/
structure Report where
  p : Ctx
  phase : Phase
  deriving DecidableEq, Repr

/-- Ticks handed by the clock and not yet taken at a block (R165; log 7). -/
structure TicksOwed where
  play : Nat
  mix : Nat
  trig : Nat
  /-- Contexts that have taken the tick now arriving at the playback engine. -/
  taken : CtxSet
  deriving DecidableEq, Repr

/-- The state of the part. -/
structure State where
  store : Store
  /-- The four context records (R41). -/
  contexts : Vector Context 4
  /-- The counter cells C0 to C15 (R81). -/
  cells : Vector Byte 16
  mix : Mixer
  out : Output
  trig : TriggerUnit
  clk : Clock
  link : Link
  /-- Phase reports not yet taken by TRIG, in the order made (R42; log 11). -/
  reports : List Report
  /-- Posts handed to a context and not yet taken by it (R71, R87; log 12). -/
  posts : List (Ctx × EventId)
  owed : TicksOwed
  /-- The model's own: the draw counter of the free values (log 9, log 10). -/
  free : Nat
  /-- The commands that are waiting, first in, first out. -/
  pending : List Instr
  deriving DecidableEq, Repr

/-! ### Reset values -/

/-- The grant order at reset (R17). -/
def resetOrder : List Claimant := [.ctx 0, .ctx 1, .ctx 2, .ctx 3, .link]

/-- STORE after a reset with this array (R4, R6, R17, R21). -/
def Store.reset (cells : Memory) : Store :=
  { cells, mask := 0, lockActive := false, port := none, order := resetOrder, linkOp := none }

/-- A context after a reset (R70): no home pointer. The rules give the END bit of the field alone; its
other fifteen bits are the model's choice, as erased (log 31). -/
def Context.reset : Context :=
  { activity := .idle, current := none, arrivals := 0, home := 0xFFFF, report := false }

/-- A claim set without claims (R88). -/
def ClaimSet.empty : ClaimSet := { ctx := Vector.replicate 4 none, link := none }

/-- A mixer channel after a reset (R108). -/
def MixChannel.reset : MixChannel :=
  { claims := .empty, stampCounter := 0, arbitration := .htp, curve := 0, secondary := false,
    level := 0, dutyLast := 0 }

/-- The mixer after a reset (R108). -/
def Mixer.reset : Mixer :=
  { channels := Vector.replicate 16 .reset, held := 0, curves := Vector.replicate 3 none }

/-- Output settings after a reset (R126). -/
def OutSettings.reset : OutSettings := { mode := .off, period := 1, deadTime := 0, duty := 0 }

/-- A channel's defaults: what an invalid header or channel entry gives it (R108, R126). -/
def ChannelConfig.default : ChannelConfig :=
  { mode := .off, period := 1, deadTime := 0, safe := false, mask := 0, arbitration := .htp,
    curve := 0 }

/-- An output channel after a reset (R126). -/
def OutChannel.reset : OutChannel :=
  { buffered := .reset, active := .reset, safe := false, mask := 0, shutdown := false,
    paired := false, loaded := none }

/-- The output stage after a reset (R126). -/
def Output.reset : Output :=
  { channels := Vector.replicate 16 .reset,
    sources := Vector.replicate 2 { mode := .latch, latch := false, input := false } }

/-- The firing fields of an unconfigured entry or matcher (R145, R163). -/
def Firing.default : Firing :=
  { action := .go, mode := .fixed, targets := 1, pointer := none, fade := 0, expiry := 0 }

/-- A trigger entry's defaults (R145). -/
def TriggerConfig.default : TriggerConfig :=
  { enabled := false, activeLow := false, sense := .edge, firing := .default }

/-- A trigger entry after a reset (R145). -/
def Trigger.reset : Trigger :=
  { config := .default, coalesced := false, missed := false, resting := false, heldBy := 0 }

/-- A matcher's defaults (R163): a step byte of 0 is IN0 RISING. -/
def MatcherConfig.default : MatcherConfig :=
  { enabled := false, stepCount := 1, steps := Vector.replicate 8 0, gap := 1000,
    firing := .default }

/-- A matcher after a reset (R163). -/
def Matcher.reset : Matcher :=
  { config := .default, progress := 0, gapRemaining := 0, coalesced := false, missed := false }

/-- A group's defaults (R145). -/
def Group.default : Group := { enable := false, report := false, filter := 0 }

/-- TRIG after a reset (R145, R163). -/
def TriggerUnit.reset : TriggerUnit :=
  { lines := Vector.replicate 24 { high := false, run := 0, sampled := false },
    groups := Vector.replicate 3 .default,
    triggers := Vector.replicate 24 .reset,
    matchers := Vector.replicate 2 .reset,
    queue := [], known := Vector.replicate 4 .idle }

/-- The link after a reset (R195); the HOLD pin keeps its level and the rate stands until the reset
ends (R176, R188). -/
def Link.reset (hold : Bool) (rate : LinkRate) : Link :=
  { receiver := .hunt, service := none, buffered := none, outbound := [], sending := false,
    hold, rate, dropped := false, overflow := false }

/-- The clock held in a reset of a cause (R164, R169); `last` is the cause recorded before. -/
def Clock.reset (cause last : ResetCause) : Clock :=
  { stage := .inReset cause, tickCode := 3, intervalCode := 3, stamp := 0, cause := last,
    resetPending := false }

/-- The part right after a reset falls: every block at its reset values (R168). What a reset does not
touch is given: the array (R21), the HOLD pin, the link rate and the recorded cause until the reset
ends, the draw counter and the waiting commands (log 23). -/
def State.afterReset (cells : Memory) (cause last : ResetCause) (hold : Bool) (rate : LinkRate)
    (free : Nat) (pending : List Instr) : State :=
  { store := .reset cells
    contexts := Vector.replicate 4 .reset
    cells := Vector.replicate 16 0
    mix := .reset
    out := .reset
    trig := .reset
    clk := .reset cause last
    link := .reset hold rate
    reports := []
    posts := []
    owed := { play := 0, mix := 0, trig := 0, taken := 0 }
    free
    pending }

/-- The part right after reset: held in its first POWER reset with nothing programmed (log 1, 2, 3). -/
def State.reset : State := State.afterReset [] .power .power false .slow 0 []

end Sys2Proof.Machine
end

