-- ==== Sys2Proof/Machine/Ops.lean ====
section
/-! DEFINITION. The named operations over memory, registers and queues that every meaning is built
from: the store array, one record of a bank of records, the outbound queue, phase reports, posts, the
orders the manual leaves open, and the store port's arbiter. -/

namespace Sys2Proof.Machine

/-! ### The store array (R1, R2) -/

/-- What an address that is not listed reads as: an erased byte (R1; log 1). -/
def Memory.erased : Byte := 0xFF

/-- The byte at an address. -/
def Memory.read : Memory → Nat → Byte
  | [], _ => Memory.erased
  | (b, v) :: m, a => if a = b then v else Memory.read m a

/-- Put a listed byte in its place; the byte is not the erased one. -/
def Memory.insert : Memory → Nat → Byte → Memory
  | [], a, v => [(a, v)]
  | (b, w) :: m, a, v =>
    if a < b then (a, v) :: (b, w) :: m
    else if a = b then (a, v) :: m
    else (b, w) :: Memory.insert m a v

/-- The array with one byte set; an erased byte is not listed. -/
def Memory.write (m : Memory) (a : Nat) (v : Byte) : Memory :=
  if v = Memory.erased then m.filter (fun c => c.1 != a) else Memory.insert m a v

/-- Addresses strictly rise from a bound on, and no listed byte is erased. -/
def Memory.wfFrom : Nat → Memory → Bool
  | _, [] => true
  | n, (a, v) :: m => n ≤ a && v != Memory.erased && Memory.wfFrom (a + 1) m

/-- The canonical form: addresses strictly rising, no entry equal to what an unlisted address reads
as, and every address one of the store's 65,536 (R1). -/
def Memory.wf (m : Memory) : Bool :=
  Memory.wfFrom 0 m && m.all (fun c => c.1 < Config.storeBytes)

/-- The array with the bytes of the addresses that satisfy a test erased (R1). -/
def Memory.eraseIf (m : Memory) (p : Nat → Bool) : Memory := m.filter (fun c => !p c.1)

/-- Erase a store frame: bytes 512f to 512f + 511 (R13). -/
def Memory.eraseFrame (m : Memory) (f : Nat) : Memory := m.eraseIf (fun a => a / 512 == f)

/-- Program one byte: the AND of the former value and the byte supplied (R2). -/
def Memory.programByte (m : Memory) (a : Nat) (v : Byte) : Memory := m.write a (m.read a &&& v)

/-- Program bytes in ascending order from an address (R2, R12). -/
def Memory.program : Memory → Nat → List Byte → Memory
  | m, _, [] => m
  | m, a, v :: vs => Memory.program (m.programByte a v) (a + 1) vs

/-- The n bytes from an address, in address order (R10). -/
def Memory.readBytes (m : Memory) (a n : Nat) : List Byte :=
  (List.range n).map (fun i => m.read (a + i))

/-- The word at a word index, least significant byte first (R196). -/
def Memory.word (m : Memory) (w : Nat) : Word :=
  wordOf (m.read (4 * w)) (m.read (4 * w + 1)) (m.read (4 * w + 2)) (m.read (4 * w + 3))

/-- The n words from a word index, in ascending order (R18). -/
def Memory.words (m : Memory) (w n : Nat) : List Word :=
  (List.range n).map (fun i => m.word (w + i))

/-- The lowest address at which the array differs from the bytes supplied, if any (R12). -/
def Memory.firstDifference : Memory → Nat → List Byte → Option Nat
  | _, _, [] => none
  | m, a, v :: vs => if m.read a = v then Memory.firstDifference m (a + 1) vs else some a

/-! ### One record of a bank -/

/-- Context p's record. -/
def State.ctx (s : State) (p : Ctx) : Context := s.contexts[p]

/-- Change context p's record. -/
def State.modCtx (s : State) (p : Ctx) (f : Context → Context) : State :=
  { s with contexts := s.contexts.set p (f s.contexts[p]) }

/-- Channel ch in the mixer. -/
def State.mixCh (s : State) (ch : Chan) : MixChannel := s.mix.channels[ch]

/-- Change channel ch in the mixer. -/
def State.modMix (s : State) (ch : Chan) (f : MixChannel → MixChannel) : State :=
  { s with mix := { s.mix with channels := s.mix.channels.set ch (f s.mix.channels[ch]) } }

/-- Channel ch's output record. -/
def State.outCh (s : State) (ch : Chan) : OutChannel := s.out.channels[ch]

/-- Change channel ch's output record. -/
def State.modOut (s : State) (ch : Chan) (f : OutChannel → OutChannel) : State :=
  { s with out := { s.out with channels := s.out.channels.set ch (f s.out.channels[ch]) } }

/-- Change every output record. -/
def State.mapOut (s : State) (f : Chan → OutChannel → OutChannel) : State :=
  { s with out := { s.out with channels := Vector.ofFn fun ch => f ch s.out.channels[ch] } }

/-- Line l's trigger entry. -/
def State.trigger (s : State) (l : Line) : Trigger := s.trig.triggers[l]

/-- Change line l's trigger entry. -/
def State.modTrigger (s : State) (l : Line) (f : Trigger → Trigger) : State :=
  { s with trig := { s.trig with triggers := s.trig.triggers.set l (f s.trig.triggers[l]) } }

/-- Change line l's filter. -/
def State.modLine (s : State) (l : Line) (f : LineFilter → LineFilter) : State :=
  { s with trig := { s.trig with lines := s.trig.lines.set l (f s.trig.lines[l]) } }

/-- Change a matcher. -/
def State.modMatcher (s : State) (m : Fin 2) (f : Matcher → Matcher) : State :=
  { s with trig := { s.trig with matchers := s.trig.matchers.set m (f s.trig.matchers[m]) } }

/-- Set the pending trigger queue. -/
def State.setQueue (s : State) (q : List DeliveryRecord) : State :=
  { s with trig := { s.trig with queue := q } }

/-- Set TRIG's knowledge of a context's phase. -/
def State.setKnown (s : State) (p : Ctx) (ph : Phase) : State :=
  { s with trig := { s.trig with known := s.trig.known.set p ph } }

/-- Change the store. -/
def State.modStore (s : State) (f : Store → Store) : State := { s with store := f s.store }

/-- Change the link. -/
def State.modLink (s : State) (f : Link → Link) : State := { s with link := f s.link }

/-- Change the clock. -/
def State.modClk (s : State) (f : Clock → Clock) : State := { s with clk := f s.clk }

/-! ### The outbound queue (R185, R186, R188) -/

/-- Whether a frame of the outbound queue is a reply. -/
def OutFrame.isReply : OutFrame → Bool
  | .reply _ => true
  | .notice _ _ => false

/-- Replies queued. -/
def Link.replies (l : Link) : Nat := l.outbound.countP OutFrame.isReply

/-- Notices queued. -/
def Link.notices (l : Link) : Nat := l.outbound.countP (fun f => !f.isReply)

/-- At a frame boundary with HOLD low, the oldest queued frame is begun (R186, R188). -/
def Link.begin_ (l : Link) : Link :=
  if l.hold || l.outbound.isEmpty then l else { l with sending := true }

/-- A frame enters the outbound queue, and is begun if nothing stands before it (R185, R186). -/
def Link.enqueue (l : Link) (f : OutFrame) : Link :=
  Link.begin_ { l with outbound := l.outbound ++ [f] }

/-- A reply is handed to the link: it is queued, and the service of the request ends (R182). -/
def State.reply (s : State) (r : Reply) : State :=
  s.modLink (fun l => Link.enqueue { l with service := none } (.reply r))

/-- A notice is handed to the link: queued with the tick stamp, or discarded with the notice-overflow
flag set when 24 notices stand queued (R166, R185). -/
def State.notify (s : State) (n : Notice) : State :=
  if Config.noticeSlots ≤ s.link.notices then s.modLink (fun l => { l with overflow := true })
  else s.modLink (fun l => l.enqueue (.notice s.clk.stamp n))

/-- A request is taken with ACK (R54). -/
def State.ack (s : State) (r : Request) : State := s.reply (.ack r.kind)

/-- A request is refused with a reason (R192). -/
def State.refuse (s : State) (r : Request) (why : Reason) : State := s.reply (.refuse r.kind why)

/-! ### Messages between blocks -/

/-- A context reports its phase to TRIG (R42). -/
def State.report (s : State) (p : Ctx) (ph : Phase) : State :=
  { s with reports := s.reports ++ [{ p, phase := ph }] }

/-- An event is handed to these contexts, each of which takes it at its own step (R71, R72). -/
def State.postTo (s : State) (ps : List Ctx) (e : EventId) : State :=
  { s with posts := s.posts ++ ps.map (fun p => (p, e)) }

/-- The four contexts, P0 first. -/
def allCtx : List Ctx := [0, 1, 2, 3]

/-- An event is handed to all four contexts (R71). -/
def State.post (s : State) (e : EventId) : State := s.postTo allCtx e

/-- The set that holds one context. -/
def ctxBit (p : Ctx) : CtxSet := 1#4 <<< p.val

/-- Whether a set holds a context. -/
def ctxIn (p : Ctx) (set : CtxSet) : Bool := set.getLsbD p.val

/-- A set with a context taken out. -/
def ctxOut (set : CtxSet) (p : Ctx) : CtxSet := set &&& ~~~(ctxBit p)

/-! ### Orders the manual leaves open (log 9) -/

/-- The order of a list that a number picks: a permutation of the list (k is the list's length). -/
def orderBy {α : Type} : Nat → Nat → List α → List α
  | 0, _, _ => []
  | k + 1, n, l =>
    match l[n % l.length]? with
    | none => []
    | some a => a :: orderBy k (n / l.length) (l.eraseIdx (n % l.length))

/-- The order in which things are taken that the manual takes in any order: free where there are two
or more (log 9). -/
def State.anyOrder {α : Type} (s : State) (l : List α) : List α × State :=
  match l with
  | [] => ([], s)
  | [a] => ([a], s)
  | a :: b :: r =>
    (orderBy (a :: b :: r).length (Config.freeOrder s.free) (a :: b :: r),
     { s with free := s.free + 1 })

/-! ### The store port (R16, R17) -/

/-- Words of a fetch read: one for a link step or a probe, the record's length for a record (R32,
R35). The length of a cue record follows from its lead word (R25). -/
def cueLength (lead : Word) : Nat :=
  2 + (if lead.getLsbD 4 then 2 else 0) + (if lead.getLsbD 5 then 1 else 0)
    + (if lead.getLsbD 6 then 1 else 0) + ((lead.extractLsb' 11 5).toNat + 1) / 2

/-- The count of words a fetch request of this kind asks for (R32, R35). -/
def ReadKind.count : ReadKind → Nat
  | .linkStep => 1
  | .probe => 1
  | .record lead => cueLength lead

/-- Whether a claimant has a request at the port that is not granted (R16). -/
def State.waitsAtPort (s : State) (c : Claimant) : Bool :=
  match c with
  | .ctx p =>
    match (s.ctx p).activity with
    | .fetch r _ => s.store.port != some (.fetch p r.kind r.position true)
    | _ => false
  | .link => s.store.linkOp.isSome && s.store.port != some .link

/-- The operation that a claimant's request asks for. -/
def State.portRequest (s : State) (c : Claimant) : Option PortOp :=
  match c with
  | .ctx p =>
    match (s.ctx p).activity with
    | .fetch r _ => some (.fetch p r.kind r.position true)
    | _ => none
  | .link => if s.store.linkOp.isSome then some .link else none

/-- Grant the port to a claimant, which moves to the end of the grant order (R17). -/
def State.grant (s : State) (c : Claimant) : State :=
  s.modStore (fun st => { st with port := s.portRequest c, order := st.order.erase c ++ [c] })

/-- The arbiter: if the port is free and claimants wait, the one that stands first in the grant order
is granted (R17). -/
def State.arbitrate (s : State) : State :=
  match s.store.port with
  | some _ => s
  | none =>
    match s.store.order.find? s.waitsAtPort with
    | some c => s.grant c
    | none => s

end Sys2Proof.Machine
end

