-- ==== Sys2Proof/Machine/Operands.lean ====
section
/-! DEFINITION. The operand forms: pointer fields, context sets, codes, and the configuration entries
that requests and the header share, each with its check (sections 11.1, 11.2.1, 11.7; R114, R131,
R142, R151, R197). -/

namespace Sys2Proof.Machine

/-! ### Pointer fields (R23, R196) -/

/-- The END mark of a pointer field. -/
def ptrEnd (f : Half) : Bool := f.getLsbD 15

/-- The INDIRECT mark of a pointer field. -/
def ptrIndirect (f : Half) : Bool := f.getLsbD 14

/-- The word index of a pointer field. -/
def ptrIndex (f : Half) : Nat := (f.extractLsb' 0 14).toNat

/-! ### Numbers in a byte -/

/-- A byte as one of n numbered things, or none where it is out of range. -/
def byteFin (n : Nat) (b : Byte) : Option (Fin n) :=
  if h : b.toNat < n then some ⟨b.toNat, h⟩ else none

/-- An action code (section 11.2.1). -/
def actionOf (b : Byte) : Option Action :=
  match b.toNat with
  | 0 => some .go
  | 1 => some .release
  | 2 => some .stop
  | 3 => some .event
  | _ => none

/-- A channel mode code. -/
def channelModeOf (b : Byte) : Option ChannelMode :=
  match b.toNat with
  | 0 => some .off
  | 1 => some .single
  | 2 => some .pair
  | _ => none

/-- An arbitration mode code. -/
def arbitrationOf (b : Byte) : Option Arbitration :=
  match b.toNat with
  | 0 => some .htp
  | 1 => some .priority
  | _ => none

/-- A safe state code: true is ACTIVE. -/
def safeOf (b : Byte) : Option Bool :=
  match b.toNat with
  | 0 => some false
  | 1 => some true
  | _ => none

/-- A fault source mode code. -/
def faultModeOf (b : Byte) : Option FaultMode :=
  match b.toNat with
  | 0 => some .latch
  | 1 => some .follow
  | _ => none

/-- A shutdown mask: bits 0 and 1, no other bit set (R114, R197). -/
def maskOf (b : Byte) : Option (BitVec 2) :=
  if b.toNat < 4 then some (b.setWidth 2) else none

/-! ### Configuration entries -/

/-- A channel is the odd one of its pair of numbers. -/
def isOdd (ch : Chan) : Bool := ch.val % 2 == 1

/-- The odd partner of an even channel (and an odd channel itself). -/
def oddPartner (ch : Chan) : Chan := ⟨ch.val / 2 * 2 + 1, by omega⟩

/-- The even partner of an odd channel (and an even channel itself). -/
def evenPartner (ch : Chan) : Chan := ⟨ch.val / 2 * 2, by omega⟩

/-- A channel entry for a channel, or none where R114 refuses it and R197 falls back: a code out of
range, or PAIR on an odd channel. -/
def ChannelEntry.config (e : ChannelEntry) (ch : Chan) : Option ChannelConfig := do
  let mode ← channelModeOf e.mode
  let period ← byteFin 4 e.period
  let safe ← safeOf e.safe
  let mask ← maskOf e.mask
  let arbitration ← arbitrationOf e.arbitration
  let curve ← byteFin 4 e.curve
  if mode = .pair ∧ isOdd ch then none
  else some { mode, period, deadTime := e.deadTime, safe, mask, arbitration, curve }

/-- A group entry, or none where its filter length is above 15 (R131, R197). -/
def GroupEntry.config (e : GroupEntry) : Option Group :=
  if e.filter.toNat ≤ 15 then
    some { enable := e.enable.getLsbD 0, report := e.report.getLsbD 0, filter := e.filter.toNat }
  else none

/-- The firing fields of an entry from its flags and fields (sections 11.7.3, 11.7.4). -/
def firingOf (flags targets : Byte) (action : Action) (pointer fade expiry : Half) : Firing :=
  { action
    mode := if flags.getLsbD 3 then .firstIdle else .fixed
    targets := targets.setWidth 4
    pointer := if flags.getLsbD 4 then some pointer else none
    fade, expiry }

/-- The restrictions that trigger entries and matchers share (R142, R151): FIRST_IDLE only with GO,
no empty target set but with EVENT, a RELEASE fade of at most 65534. -/
def Firing.allowed (f : Firing) : Bool :=
  (f.mode == .fixed || f.action == .go) && (f.targets != 0 || f.action == .event)
    && !(f.action == .release && f.fade.toNat == Config.noFade)

/-- The further restrictions of a LEVEL entry (R142): its action is GO, and a pointer field that is
present has END clear. -/
def levelAllowed (f : Firing) : Bool :=
  f.action == .go && (match f.pointer with | some p => !ptrEnd p | none => true)

/-- A trigger entry's configuration, or none where R142 refuses it and R197 falls back. -/
def TriggerEntry.config (e : TriggerEntry) : Option TriggerConfig := do
  let action ← actionOf e.action
  let firing := firingOf e.flags e.targets action e.pointer e.fade e.expiry
  let sense : Sense := if e.flags.getLsbD 2 then .level else .edge
  if firing.allowed && (sense == .edge || levelAllowed firing) then
    some { enabled := e.flags.getLsbD 0, activeLow := e.flags.getLsbD 1, sense, firing }
  else none

/-- The line of a matcher step (section 11.7.4). -/
def stepLine (b : Byte) : Nat := (b.extractLsb' 0 7).toNat

/-- Whether a matcher step is FALLING. -/
def stepFalling (b : Byte) : Bool := b.getLsbD 7

/-- A matcher entry's configuration, or none where R151 refuses it and R197 falls back. Steps beyond
the step count are stored and not checked. -/
def MatcherEntry.config (e : MatcherEntry) : Option MatcherConfig := do
  let action ← actionOf e.action
  let firing := firingOf e.flags e.targets action e.pointer e.fade e.expiry
  let n := e.stepCount.toNat
  if n == 0 || 8 < n || e.gap.toNat == 0
      || !((e.steps.toList.take n).all (fun b => stepLine b < 24)) || !firing.allowed then none
  else some { enabled := e.flags.getLsbD 0, stepCount := n, steps := e.steps, gap := e.gap.toNat,
              firing }

/-! ### Sources and phases as numbers -/

/-- The number of a source: lines 0 to 23, then SM0 and SM1 (R153). -/
def sourceNumber : Source → Nat
  | .line l => l.val
  | .matcher m => 24 + m.val

/-- The phase of a context's activity (R41). -/
def Activity.phase : Activity → Phase
  | .idle => .idle
  | .fetch _ _ => .fetch
  | .running _ (.fade _) => .fade
  | .running _ (.hold _) => .hold
  | .running _ (.wait _) => .wait
  | .paused _ _ => .paused
  | .releasing => .releasing
  | .faulted _ _ => .faulted

/-- A context's phase (R41). -/
def Context.phase (c : Context) : Phase := c.activity.phase

/-- The saved phase, in PAUSED (R41). -/
def Context.savedPhase (c : Context) : Option Phase :=
  match c.activity with
  | .paused cue saved => some (Activity.running cue saved).phase
  | _ => none

/-- Where the running or paused cue stands. -/
def Context.cuePhase (c : Context) : Option CuePhase :=
  match c.activity with
  | .running _ a => some a
  | .paused _ a => some a
  | _ => none

/-- The decoded cue, kept while it runs or is paused (R41). -/
def Context.cue (c : Context) : Option Cue :=
  match c.activity with
  | .running cue _ => some cue
  | .paused cue _ => some cue
  | _ => none

/-- The fade remaining (R41). -/
def Context.fadeRemaining (c : Context) : Nat :=
  match c.cuePhase with
  | some (.fade n) => n
  | _ => 0

/-- The hold remaining (R41). -/
def Context.holdRemaining (c : Context) : Nat :=
  match c.cuePhase with
  | some (.hold n) => n
  | _ => 0

/-- The wait condition (R41). -/
def Context.waitCondition (c : Context) : Option WaitCondition :=
  match c.cuePhase with
  | some (.wait w) => some w
  | _ => none

/-- The pause-pending mark, present in FETCH (R41). -/
def Context.pausePending (c : Context) : Bool :=
  match c.activity with
  | .fetch _ pp => pp
  | _ => false

/-- The fault reason and fault word, present in FAULTED (R41). -/
def Context.fault (c : Context) : Option (FaultReason × Nat) :=
  match c.activity with
  | .faulted r w => some (r, w)
  | _ => none

/-- The resolution state, present in FETCH (R31). -/
def Context.resolution (c : Context) : Option Resolution :=
  match c.activity with
  | .fetch r _ => some r
  | _ => none

end Sys2Proof.Machine
end

