-- ==== Sys2Proof/Machine/Cue.lean ====
section
/-! DEFINITION. Cue, link and VOID records as they are read from the store (chapter 2, section 11.6). -/

namespace Sys2Proof.Machine

/-- An erased word (R1). -/
def blankWord : Word := 0xFFFFFFFF

/-- Byte i of a word, lowest address first. -/
def wordByte (w : Word) (i : Nat) : Byte := w.extractLsb' (8 * i) 8

/-- The low half of a word: its bytes 0 and 1. -/
def wordLow (w : Word) : Half := w.extractLsb' 0 16

/-- The high half of a word: its bytes 2 and 3. -/
def wordHigh (w : Word) : Half := w.extractLsb' 16 16

/-- The kind of a record: bits 0-3 of byte 0 of its first word (R22). -/
def recordKind (w : Word) : Nat := (w.extractLsb' 0 4).toNat

/-- The pointer field of a link record: its last two bytes (R30). -/
def linkPointer (w : Word) : Half := wordHigh w

/-- The level count of a lead word (R24). -/
def leadCount (w : Word) : Nat := (w.extractLsb' 11 5).toNat

/-- The priority of a lead word (R24). -/
def leadPriority (w : Word) : Fin 8 := (w.extractLsb' 8 3).toFin

/-- The fade of a lead word (R24). -/
def leadFade (w : Word) : Nat := (wordHigh w).toNat

/-- The checks on the lead word of a PROBE read at word c, in order (R35): the fault, or none where all
pass. -/
def probeFault (c : Nat) (lead : Word) : Option FaultReason :=
  if lead = blankWord then some .blankCue
  else if recordKind lead ≠ 1 then some .badRecord
  else if 16 < leadCount lead then some .badRecord
  else if leadFade lead = Config.noFade then some .badRecord
  else if Config.storeWords < c + cueLength lead then some .badRecord
  else none

/-- The wait block, where flag W is set (R26), and the words behind it. -/
def takeWait (present : Bool) (ws : List Word) : Option (Option WaitBlock × List Word) :=
  match present, ws with
  | false, ws => some (none, ws)
  | true, a :: b :: rest => do
    let event ← byteFin 32 (wordByte a 0)
    some (some { event, timeout := (wordHigh a).toNat, pointer := wordLow b }, rest)
  | true, _ => none

/-- The loop block, where flag L is set (R27), and the words behind it. -/
def takeLoop (present : Bool) (ws : List Word) : Option (Option LoopBlock × List Word) :=
  match present, ws with
  | false, ws => some (none, ws)
  | true, a :: rest => do
    let cell ← byteFin 16 (wordByte a 0)
    some (some { cell, reload := wordByte a 1, pointer := wordHigh a }, rest)
  | true, [] => none

/-- The post block, where flag P is set (R28), and the words behind it. -/
def takePost (present : Bool) (ws : List Word) : Option (Option EventId × List Word) :=
  match present, ws with
  | false, ws => some (none, ws)
  | true, a :: rest => do
    let event ← byteFin 32 (wordByte a 0)
    some (some event, rest)
  | true, [] => none

/-- The level entries of the words of a level list, two to a word (R29). -/
def levelPairs : List Word → List (Byte × Byte)
  | [] => []
  | w :: ws => (wordByte w 0, wordByte w 1) :: (wordByte w 2, wordByte w 3) :: levelPairs ws

/-- The level list: as many entries as the level count, each with a channel of 15 or less (R29, R36). -/
def takeLevels (count : Nat) (ws : List Word) : Option (List (Chan × Byte)) :=
  ((levelPairs ws).take count).mapM fun e => (byteFin 16 e.1).map fun ch => (ch, e.2)

/-- The blocks and fields of a record whose lead word has been checked (R24 to R29, R36 checks 3 to 6). -/
def decodeBlocks (c : Nat) (lead : Word) (rest : List Word) : Option Cue :=
  match rest with
  | [] => none
  | second :: ws => do
    let (wait, ws) ← takeWait (lead.getLsbD 4) ws
    let (loop, ws) ← takeLoop (lead.getLsbD 5) ws
    let (post, ws) ← takePost (lead.getLsbD 6) ws
    let levels ← takeLevels (leadCount lead) ws
    some { word := c, wait, loop, post, releaseOthers := lead.getLsbD 7,
           priority := leadPriority lead, levels, fade := leadFade lead,
           hold := (wordLow second).toNat, next := wordHigh second }

/-- The outcome of a RECORD read at word c with the probed lead word (R36): a decoded cue (R37) or a
fault. -/
def decodeRecord (c : Nat) (probed : Word) (words : List Word) : Except FaultReason Cue :=
  match words with
  | [] => .error .badRecord
  | lead :: rest =>
    if lead = blankWord then .error .blankCue
    else if lead ≠ probed then .error .badRecord
    else
      match decodeBlocks c lead rest with
      | some cue => .ok cue
      | none => .error .badRecord

end Sys2Proof.Machine
end

