-- ==== Sys2Proof/Machine/Flags.lean ====
section
/-! DEFINITION. What the part computes from its state: the header's validity and the lock test, the
asserted state of a fault source, READY, the start-up phase, and the output pins. -/

namespace Sys2Proof.Machine

/-! ### The header and the lock (R3, R6) -/

/-- The header is valid: identity bytes 0xC5, 0x24 and format version 1 (R3). -/
def Memory.headerValid (m : Memory) : Bool :=
  m.read 0 == 0xC5 && m.read 1 == 0x24 && m.read 2 == 1

/-- The lock test: active when the header is valid and the lock byte is not 0xFF (R6). -/
def Memory.lockTest (m : Memory) : Bool := m.headerValid && m.read 6 != 0xFF

/-! ### Start-up phase (R164, R171) -/

/-- The start-up phase is RUNNING. -/
def State.isRunning (s : State) : Bool := s.clk.stage == .running

/-- A reset is held (R169). -/
def State.isInReset (s : State) : Bool :=
  match s.clk.stage with
  | .inReset _ => true
  | _ => false

/-! ### READY (R190) -/

/-- The READY pin: RUNNING, no RESET_PART pending, the buffered place empty, at most six replies
queued (R190). -/
def State.ready (s : State) : Bool :=
  s.isRunning && !s.clk.resetPending && s.link.buffered.isNone && s.link.replies ≤ 6

/-! ### Fault sources (R119) -/

/-- A fault source is asserted: its latch flag in LATCH mode, its input in FOLLOW mode (R119). -/
def FaultSource.asserted (f : FaultSource) : Bool :=
  match f.mode with
  | .latch => f.latch
  | .follow => f.input

/-- The sources that are asserted. -/
def Output.assertedSet (o : Output) : BitVec 2 :=
  (if o.sources[0].asserted then 1 else 0) ||| (if o.sources[1].asserted then 2 else 0)

/-- Whether a shutdown mask names an asserted source (R121). -/
def Output.namesAsserted (o : Output) (mask : BitVec 2) : Bool := mask &&& o.assertedSet != 0

/-- A set of channels from a test (R196: bit n is CHn). -/
def chanSet (f : Chan → Bool) : BitVec 16 :=
  (List.finRange 16).foldl (fun acc ch => if f ch then acc ||| (1#16 <<< ch.val) else acc) 0

/-- The channels whose shutdown mask names a source (R120). -/
def Output.naming (o : Output) (src : Fin 2) : BitVec 16 :=
  chanSet fun ch => (o.channels[ch]).mask.getLsbD src.val

/-- The channels in SHUTDOWN (R118, R194). -/
def Output.inShutdown (o : Output) : BitVec 16 := chanSet fun ch => (o.channels[ch]).shutdown

/-! ### Periods and pins (R110, R111, R116, R121) -/

/-- The length of a period in units of 62.5 ns (R110). -/
def periodUnits (code : Fin 4) : Nat :=
  match code with
  | 0 => 64000
  | 1 => 16000
  | 2 => 4000
  | 3 => 800

/-- The on-time within a period: T x duty / 65535, truncated (R111). -/
def onTime (code : Fin 4) (duty : Half) : Nat := periodUnits code * duty.toNat / 65535

/-- The SINGLE waveform at u units after the period start (R111). -/
def OutSettings.singleAt (a : OutSettings) (u : Nat) : Bool := u < onTime a.period a.duty

/-- The even pin of a formed pair at u units after the period start (R116). -/
def OutSettings.evenAt (a : OutSettings) (u : Nat) : Bool :=
  a.deadTime.toNat ≤ u && u < onTime a.period a.duty

/-- The odd pin of a formed pair at u units after the period start (R116). -/
def OutSettings.oddAt (a : OutSettings) (u : Nat) : Bool :=
  onTime a.period a.duty + a.deadTime.toNat ≤ u && u < periodUnits a.period

/-- A channel whose pair is formed: PAIR is its active mode (R115). -/
def OutChannel.formsPair (c : OutChannel) : Bool := c.active.mode == .pair

/-- A channel's own pin, outside a pair (R111, R112, R121). -/
def OutChannel.ownPin (c : OutChannel) (u : Nat) : Bool :=
  if c.shutdown then c.safe
  else
    match c.active.mode with
    | .single => c.active.singleAt u
    | .off => false
    | .pair => false

/-- Whether pin OUTn is active at u units after the start of the period that governs it: the channel's
own period, or its even partner's where it is paired (R111, R112, R115, R116, R121). Every pin is
inactive in reset and in STARTING (R126, R171). -/
def State.pinActive (s : State) (ch : Chan) (u : Nat) : Bool :=
  if !s.isRunning then false
  else
    let c := s.outCh ch
    if isOdd ch && c.paired then
      let even := s.outCh (evenPartner ch)
      !even.shutdown && even.active.oddAt u
    else if c.formsPair then !c.shutdown && c.active.evenAt u
    else c.ownPin u

end Sys2Proof.Machine
end

