-- ==== Sys2Proof/Machine/Mixer.lean ====
section
/-! DEFINITION. The Channel Mixer (chapter 5): claims and their fades, arbitration, curves and duty, the
hand-overs of the contexts, holds, and secondaries. -/

namespace Sys2Proof.Machine

/-! ### Claim sets (R88) -/

/-- The claim of a claimant. -/
def ClaimSet.get (cs : ClaimSet) (c : Claimant) : Option Claim :=
  match c with
  | .ctx p => cs.ctx[p]
  | .link => cs.link

/-- The claim set with a claimant's claim put, replaced or taken out. -/
def ClaimSet.set (cs : ClaimSet) (c : Claimant) (v : Option Claim) : ClaimSet :=
  match c with
  | .ctx p => { cs with ctx := cs.ctx.set p v }
  | .link => { cs with link := v }

/-- The five claimants, in claimant order P0, P1, P2, P3, LINK (R105). -/
def allClaimants : List Claimant := [.ctx 0, .ctx 1, .ctx 2, .ctx 3, .link]

/-- The claims of a set with their claimants, in claimant order (R105). -/
def ClaimSet.list (cs : ClaimSet) : List (Claimant × Claim) :=
  allClaimants.filterMap fun c => (cs.get c).map fun v => (c, v)

/-- Change every claim of a set; none takes the claim out. -/
def ClaimSet.update (cs : ClaimSet) (f : Claimant → Claim → Option Claim) : ClaimSet :=
  { ctx := Vector.ofFn fun p => cs.ctx[p].bind (f (.ctx p)), link := cs.link.bind (f .link) }

/-! ### One claim (R91, R92, R96) -/

/-- A claim is settled when its fade elapsed equals its fade total (R88). -/
def Claim.settled (c : Claim) : Bool := c.elapsed == c.total

/-- The level of a fade after some ticks: start + (target - start) x elapsed / total, the quotient
truncated toward zero (R96). -/
def fadeLevel (start target : Byte) (elapsed total : Nat) : Byte :=
  BitVec.ofInt 8 ((start.toNat : Int)
    + (((target.toNat : Int) - (start.toNat : Int)) * (elapsed : Int)).tdiv (total : Int))

/-- A claim advanced by one tick (R96); a releasing claim that settles is removed. -/
def Claim.tick (c : Claim) : Option Claim :=
  if c.settled then some c
  else
    let e := c.elapsed + 1
    if e = c.total then
      if c.releasing then none else some { c with elapsed := e, present := c.target }
    else some { c with elapsed := e, present := fadeLevel c.start c.target e c.total }

/-- A claim released with a fade; a fade of 0 removes it at once (R92). -/
def Claim.release (c : Claim) (fade : Nat) : Option Claim :=
  if fade = 0 then none
  else some { c with start := c.present, target := 0, total := fade, elapsed := 0,
                     releasing := true }

/-! ### Arbitration (R97, R98) -/

/-- The greatest present level among claims, or 0 (R97). -/
def greatestLevel (cs : List Claim) : Byte :=
  cs.foldl (fun m c => if m.toNat < c.present.toNat then c.present else m) 0

/-- Whether a claim comes before another in the selection: higher priority, or equal priority and a
greater stamp (R98). -/
def Claim.beats (a b : Claim) : Bool :=
  b.priority.val < a.priority.val || (a.priority == b.priority && b.stamp < a.stamp)

/-- The selected claim: the non-releasing claim of highest priority, the later stamp among equals
(R98). -/
def selectClaim (cs : List (Claimant × Claim)) : Option (Claimant × Claim) :=
  cs.foldl (fun best c =>
    if c.2.releasing then best
    else match best with
      | none => some c
      | some b => if c.2.beats b.2 then some c else some b) none

/-- The effective level of a claim set under an arbitration mode (R97, R98). -/
def ClaimSet.level (cs : ClaimSet) (mode : Arbitration) : Byte :=
  let claims := cs.list.map Prod.snd
  match mode with
  | .htp => greatestLevel claims
  | .priority =>
    match selectClaim cs.list with
    | none => greatestLevel claims
    | some (_, sel) =>
      greatestLevel (sel :: claims.filter fun c => c.releasing && sel.priority.val < c.priority.val)

/-! ### Curves (R100) -/

/-- Curve 0, and a slot without a loaded curve: level x 257 (R100). -/
def linearDuty (level : Byte) : Half := BitVec.ofNat 16 (level.toNat * 257)

/-- A level through a slot of the curve RAM (R100). -/
def slotDuty (slot : CurveSlot) (level : Byte) : Half :=
  match slot with
  | none => linearDuty level
  | some t => t[level.toNat]

/-- A level through a curve number (R100). -/
def Mixer.duty (m : Mixer) (curve : Fin 4) (level : Byte) : Half :=
  match curve with
  | 0 => linearDuty level
  | 1 => slotDuty m.curves[0] level
  | 2 => slotDuty m.curves[1] level
  | 3 => slotDuty m.curves[2] level

/-- A duty is handed to the Output Stage, which buffers it, and is remembered (R100, R113). -/
def State.handDuty (s : State) (ch : Chan) (d : Half) : State :=
  (s.modMix ch fun c => { c with dutyLast := d }).modOut ch
    fun o => { o with buffered := { o.buffered with duty := d } }

/-- The channel's level translated through its curve and handed where it differs from the duty last
handed; a secondary hands none (R100). -/
def State.translate (s : State) (ch : Chan) : State :=
  let c := s.mixCh ch
  if c.secondary then s
  else
    let d := s.mix.duty c.curve c.level
    if d = c.dutyLast then s else s.handDuty ch d

/-- The channel's effective level is settled again, and its duty with it; a secondary is not settled
(R97, R100). -/
def State.settle (s : State) (ch : Chan) : State :=
  if (s.mixCh ch).secondary then s
  else (s.modMix ch fun c => { c with level := c.claims.level c.arbitration }).translate ch

/-! ### Claim arrival (R89, R91) -/

/-- The claims renumbered 1 to k in the order of their stamps (R89): a claim's new stamp is the number
of claims whose stamp is not greater. -/
def ClaimSet.renumber (cs : ClaimSet) : ClaimSet :=
  cs.update fun _ c =>
    some { c with stamp := (cs.list.filter fun d => d.2.stamp ≤ c.stamp).length }

/-- The claim set and stamp counter before a new claim is stamped: renumbered where the counter stands
at 65535 (R89). -/
def renumbered (cs : ClaimSet) (counter : Nat) : ClaimSet × Nat :=
  if counter = 65535 then (cs.renumber, cs.list.length) else (cs, counter)

/-- The channel with a new claim of a claimant (R89, R91). The claimant's old claim is taken out before
a renumbering (log 14). -/
def MixChannel.arrive (c : MixChannel) (who : Claimant) (target : Byte) (fade : Nat)
    (priority : Fin 8) : MixChannel :=
  let start := match c.claims.get who with
    | some old => old.present
    | none => c.level
  let r := renumbered (c.claims.set who none) c.stampCounter
  let claim : Claim :=
    { present := if fade = 0 then target else start, start, target, total := fade, elapsed := 0,
      priority, stamp := r.2 + 1, releasing := false }
  { c with claims := r.1.set who (some claim), stampCounter := r.2 + 1 }

/-- A new claim arrives on a channel that is not a secondary (R91). -/
def State.claimArrives (s : State) (ch : Chan) (who : Claimant) (target : Byte) (fade : Nat)
    (priority : Fin 8) : State :=
  (s.modMix ch fun c => c.arrive who target fade priority).settle ch

/-! ### Changes over all claim sets (R92, R93, R96) -/

/-- Channel numbers, CH0 first. -/
def allChan : List Chan := List.finRange 16

/-- Settle a channel's level where its claim set has changed from a former one (R97). -/
def State.settleChanged (s : State) (before : Vector MixChannel 16) (ch : Chan) : State :=
  if (s.mixCh ch).claims = (before[ch]).claims then s else s.settle ch

/-- Change the claims of every channel, then settle each channel whose claim set has changed (R97). -/
def State.updateClaims (s : State) (f : Chan → Claimant → Claim → Option Claim) : State :=
  let before := s.mix.channels
  let after : Vector MixChannel 16 :=
    Vector.ofFn fun ch => { before[ch] with claims := (before[ch]).claims.update (f ch) }
  let s1 : State := { s with mix := { s.mix with channels := after } }
  allChan.foldl (fun t ch => t.settleChanged before ch) s1

/-- Whether a context holds a claim on some channel (R95). -/
def Mixer.holdsClaim (m : Mixer) (p : Ctx) : Bool :=
  allChan.any fun ch => ((m.channels[ch]).claims.get (.ctx p)).isSome

/-- The contexts that held a claim before and hold none now: each is sent a claims-gone report (R95). -/
def claimsGone (before after : Mixer) : List Ctx :=
  allCtx.filter fun p => before.holdsClaim p && !after.holdsClaim p

/-- A release of all of a context's claims (R92). -/
def State.releaseAll (s : State) (p : Ctx) (fade : Nat) : State :=
  s.updateClaims fun _ who c => if who = .ctx p then c.release fade else some c

/-- A release-others: the context's claims on channels that are not named, but those already
releasing (R46, R92). -/
def State.releaseOthers (s : State) (p : Ctx) (named : List Chan) (fade : Nat) : State :=
  s.updateClaims fun ch who c =>
    if who = .ctx p ∧ ch ∉ named ∧ c.releasing = false then c.release fade else some c

/-- A context joins the held set (R94). -/
def State.holdClaims (s : State) (p : Ctx) : State :=
  { s with mix := { s.mix with held := s.mix.held ||| ctxBit p } }

/-- A context leaves the held set (R94). -/
def State.endHold (s : State) (p : Ctx) : State :=
  { s with mix := { s.mix with held := ctxOut s.mix.held p } }

/-- A removal of all of a context's claims, which also leaves the held set (R93). -/
def State.removeClaims (s : State) (p : Ctx) : State :=
  (s.updateClaims fun _ who c => if who = .ctx p then none else some c).endHold p

/-- Whether a claimant's claims are held at the tick (R94); LINK is never held. -/
def Mixer.isHeld (m : Mixer) (who : Claimant) : Bool :=
  match who with
  | .ctx p => ctxIn p m.held
  | .link => false

/-- A tick at the mixer: every claim that is not held advances (R96). -/
def State.advanceClaims (s : State) : State :=
  s.updateClaims fun _ who c => if s.mix.isHeld who then some c else c.tick

/-! ### Cue claims (R46, R90) -/

/-- One level list entry becomes a claim, unless its channel is a secondary (R46, R107). -/
def State.cueClaim (s : State) (p : Ctx) (cue : Cue) (entry : Chan × Byte) : State :=
  if (s.mixCh entry.1).secondary then s
  else s.claimArrives entry.1 (.ctx p) entry.2 cue.fade cue.priority

/-- The cue's claims in list order, then the release-others of flag X (R46, R90). -/
def State.cueClaims (s : State) (p : Ctx) (cue : Cue) : State :=
  let s1 := cue.levels.foldl (fun t e => t.cueClaim p cue e) s
  if cue.releaseOthers then s1.releaseOthers p (cue.levels.map Prod.fst) cue.fade else s1

/-! ### Configuration (R106, R107) -/

/-- Mark a channel a secondary: its claims are removed, its effective level stands at 0 (R107). A
channel already marked is left as it is. -/
def MixChannel.becomeSecondary (c : MixChannel) : MixChannel :=
  if c.secondary then c else { c with secondary := true, claims := .empty, level := 0 }

/-- A channel that ceases to be a secondary hands its duty whatever the duty last handed (R107). -/
def State.ceaseSecondary (s : State) (ch : Chan) : State :=
  let c := s.mixCh ch
  if c.secondary then
    (s.modMix ch fun c => { c with secondary := false, level := 0 }).handDuty ch
      (s.mix.duty c.curve 0)
  else s

/-- The mixer's part of a CONFIG_CHANNEL (R106, R107). -/
def State.mixConfig (s : State) (ch : Chan) (cfg : ChannelConfig) : State :=
  let s1 := (s.modMix ch fun c =>
    { c with arbitration := cfg.arbitration, curve := cfg.curve }).settle ch
  if isOdd ch then s1
  else if cfg.mode = .pair then s1.modMix (oddPartner ch) MixChannel.becomeSecondary
  else s1.ceaseSecondary (oddPartner ch)

/-- Every channel's level is translated again (R173). -/
def State.translateAll (s : State) : State := allChan.foldl State.translate s

/-- The curve RAM is filled, and each channel whose curve number is 1 to 3 is translated again (R101). -/
def State.fillCurves (s : State) (slots : Vector CurveSlot 3) : State :=
  (allChan.filter fun ch => (s.mixCh ch).curve != 0).foldl State.translate
    { s with mix := { s.mix with curves := slots } }

end Sys2Proof.Machine
end

