-- ==== Sys2Proof/Machine/Output.lean ====
section
/-! DEFINITION. The Output Stage (chapter 6): its part of CONFIG_CHANNEL, the fault sources and
shutdown, and the period start. -/

namespace Sys2Proof.Machine

/-- A channel whose mask names an asserted source enters SHUTDOWN (R121, R123). -/
def OutChannel.enterShutdown (c : OutChannel) (o : Output) : OutChannel :=
  if o.namesAsserted c.mask then { c with shutdown := true } else c

/-- The Output Stage's part of a CONFIG_CHANNEL: buffered fields, and the safe state and mask at once
(R114, R123). -/
def State.outConfig (s : State) (ch : Chan) (cfg : ChannelConfig) : State :=
  s.modOut ch fun c =>
    OutChannel.enterShutdown
      { c with buffered := { c.buffered with mode := cfg.mode, period := cfg.period,
                                             deadTime := cfg.deadTime },
               safe := cfg.safe, mask := cfg.mask } s.out

/-- A fault source takes a new record. Where its asserted state changes, the channels whose mask names
it enter SHUTDOWN on an assertion, and a FAULT notice is queued (R119, R120, R121). -/
def State.setSource (s : State) (src : Fin 2) (f : FaultSource) : State :=
  let was := (s.out.sources[src]).asserted
  let s1 : State := { s with out := { s.out with sources := s.out.sources.set src f } }
  if f.asserted = was then s1
  else
    let s2 := if f.asserted then
        s1.mapOut fun _ c => if c.mask.getLsbD src.val then { c with shutdown := true } else c
      else s1
    s2.notify (.fault src f.asserted (s2.out.naming src))

/-- An input change at a fault source (R118, R119). -/
def FaultSource.inputChange (f : FaultSource) (active : Bool) : FaultSource :=
  match f.mode with
  | .latch => { f with input := active, latch := f.latch || active }
  | .follow => { f with input := active }

/-- A change of a fault source's mode (R125). -/
def FaultSource.setMode (f : FaultSource) (mode : FaultMode) : FaultSource :=
  match f.mode, mode with
  | .latch, .follow => { f with mode := .follow, latch := false }
  | .follow, .latch => { f with mode := .latch, latch := f.input }
  | .latch, .latch => f
  | .follow, .follow => f

/-- A channel at its own period start: the buffered values become active, and a SHUTDOWN whose sources
are all deasserted ends (R110, R122). -/
def OutChannel.startPeriod (c : OutChannel) (o : Output) : OutChannel :=
  { c with active := c.buffered, shutdown := c.shutdown && o.namesAsserted c.mask }

/-- The odd partner at an even channel's period start: the pair is formed, kept or dissolved (R115,
R117). -/
def OutChannel.followPair (c : OutChannel) (mode : ChannelMode) (o : Output) : OutChannel :=
  if mode = .pair then { c with paired := true }
  else if c.paired then OutChannel.startPeriod { c with paired := false } o
  else c

/-- A channel's period start (R110, R115, R117, R122). -/
def State.startPeriod (s : State) (ch : Chan) : State :=
  let s1 := s.modOut ch fun c => c.startPeriod s.out
  if isOdd ch then s1
  else s1.modOut (oddPartner ch) fun c => c.followPair (s.outCh ch).buffered.mode s.out

end Sys2Proof.Machine
end

