-- ==== Sys2Proof/Machine/Context.lean ====
section
/-! DEFINITION. The playback contexts (chapter 3) with the events and counter cells they use (chapter 4):
entering a phase, following a pointer field, cue start, completions, and what each request or delivery
does to a context. -/

namespace Sys2Proof.Machine

/-! ### Entering a phase (R42, R63, R65) -/

/-- A context enters a phase and reports it (R42). -/
def State.enter (s : State) (p : Ctx) (a : Activity) : State :=
  (s.modCtx p fun c => { c with activity := a }).report p a.phase

/-- A context enters IDLE by a way: the current cue pointer becomes absent, and CONTEXT_IDLE is queued
where the report flag is on (R63). -/
def State.enterIdle (s : State) (p : Ctx) (way : Way) : State :=
  let c := s.ctx p
  let s1 := (s.modCtx p fun c => { c with activity := .idle, current := none }).report p .idle
  if c.report then s1.notify (.contextIdle p way c.current) else s1

/-- A context enters FAULTED: its claims are held and CONTEXT_FAULT is queued (R65). -/
def State.enterFaulted (s : State) (p : Ctx) (reason : FaultReason) (word : Nat) : State :=
  ((s.enter p (.faulted reason word)).holdClaims p).notify
    (.contextFault p reason word (s.ctx p).current)

/-- The mixer's claims-gone report reaches a context: one in RELEASING enters IDLE, any other ignores
it (R62, R95). -/
def State.takeClaimsGone (s : State) (p : Ctx) : State :=
  match (s.ctx p).activity with
  | .releasing => s.enterIdle p .released
  | _ => s

/-- Claims-gone reports to several contexts, in any order (R95; log 9). -/
def State.takeAllGone (s : State) (ps : List Ctx) : State :=
  let r := s.anyOrder ps
  r.1.foldl State.takeClaimsGone r.2

/-! ### Following a pointer field (R32, R43) -/

/-- A pointer field is examined: no target, a bad pointer, or a fetch request for its word (R32). -/
def State.examineField (s : State) (p : Ctx) (field : Half) (steps : Nat) (pausePending : Bool) :
    State :=
  if ptrEnd field then s.enterIdle p .ended
  else if ptrIndex field < Config.headerWords then s.enterFaulted p .badPointer (ptrIndex field)
  else
    let kind : ReadKind := if ptrIndirect field then .linkStep else .probe
    State.arbitrate (s.modCtx p fun c =>
      { c with activity := .fetch { position := ptrIndex field, kind, steps } pausePending })

/-- A context enters FETCH with a pointer field to follow (R43). -/
def State.enterFetch (s : State) (p : Ctx) (field : Half) : State :=
  (s.report p .fetch).examineField p field 0 false

/-! ### Completions (R49 to R53, R82) -/

/-- The loop operation on a cell: whether the answer is LOOP, and the cell's new value (R82). -/
def loopOperation (value reload : Byte) : Bool × Byte :=
  if value = 0 then (false, reload) else (true, value - 1)

/-- A normal completion of a cue: the loop operation where L is set, then FETCH (R52, R83). -/
def State.completeNormally (s : State) (p : Ctx) (cue : Cue) : State :=
  match cue.loop with
  | none => s.enterFetch p cue.next
  | some b =>
    let r := loopOperation s.cells[b.cell] b.reload
    State.enterFetch { s with cells := s.cells.set b.cell r.2 } p
      (if r.1 then b.pointer else cue.next)

/-- Whether an event id is in a context's arrival set (R72). -/
def Context.hasArrived (c : Context) (e : EventId) : Bool := c.arrivals.getLsbD e.val

/-- The FADE of a context completes: WAIT or HOLD as the cue says (R49, R50, R75). -/
def State.completeFade (s : State) (p : Ctx) (cue : Cue) : State :=
  match cue.wait with
  | some w =>
    let s1 := s.enter p (.running cue (.wait (.event w.event w.timeout w.pointer)))
    if (s.ctx p).hasArrived w.event then s1.completeNormally p cue else s1
  | none =>
    if cue.hold = Config.holdForGo then s.enter p (.running cue (.wait .go))
    else
      let s1 := s.enter p (.running cue (.hold cue.hold))
      if cue.hold = 0 then s1.completeNormally p cue else s1

/-- A context enters FADE with a count of ticks; a count of 0 completes at once (R45, R59). -/
def State.enterFade (s : State) (p : Ctx) (cue : Cue) (ticks : Nat) : State :=
  let s1 := s.enter p (.running cue (.fade ticks))
  if ticks = 0 then s1.completeFade p cue else s1

/-! ### Cue start (R45, R47, R79) -/

/-- An event id is added to a context's arrival set (R72). -/
def Context.arrive (c : Context) (e : EventId) : Context :=
  { c with arrivals := c.arrivals ||| (1#32 <<< e.val) }

/-- Step 5 of a cue start: the post block's event goes into this context's arrival set and to the
other three contexts (R45, R79). -/
def State.cuePost (s : State) (p : Ctx) (event : Option EventId) : State :=
  match event with
  | none => s
  | some e => (s.modCtx p fun c => c.arrive e).postTo (allCtx.filter (· ≠ p)) e

/-- A decoded cue starts, in the seven steps of R45. -/
def State.startCue (s : State) (p : Ctx) (cue : Cue) (pausePending : Bool) : State :=
  let s1 := s.modCtx p fun c => { c with arrivals := 0, current := some cue.word }
  let s2 := (s1.cueClaims p cue).cuePost p cue.post
  let s3 := if (s2.ctx p).report then s2.notify (.cueStarted p cue.word pausePending) else s2
  if pausePending then (s3.enter p (.paused cue (.fade cue.fade))).holdClaims p
  else s3.enterFade p cue cue.fade

/-! ### Fetch reads that have completed (R33 to R36) -/

/-- A context examines the word of a LINK_STEP read at position w (R33, R34). -/
def State.takeLinkStep (s : State) (p : Ctx) (w steps : Nat) (pausePending : Bool) (word : Word) :
    State :=
  if word = blankWord then s.enterFaulted p .blankCue w
  else if recordKind word = 2 then
    if Config.linkSteps ≤ steps then s.enterFaulted p .linkDepth w
    else s.examineField p (linkPointer word) (steps + 1) pausePending
  else if recordKind word = 0 then
    if Config.linkSteps ≤ steps then s.enterFaulted p .linkDepth w
    else if w + 1 = Config.storeWords then s.enterFaulted p .badRecord w
    else
      State.arbitrate (s.modCtx p fun c =>
        { c with activity :=
            .fetch { position := w + 1, kind := .linkStep, steps := steps + 1 } pausePending })
  else s.enterFaulted p .badRecord w

/-- A context examines the lead word of a PROBE read at position c (R35). -/
def State.takeProbe (s : State) (p : Ctx) (c steps : Nat) (pausePending : Bool) (lead : Word) :
    State :=
  match probeFault c lead with
  | some reason => s.enterFaulted p reason c
  | none =>
    State.arbitrate (s.modCtx p fun r =>
      { r with activity := .fetch { position := c, kind := .record lead, steps } pausePending })

/-- A context examines the words of a RECORD read at position c (R36, R37). -/
def State.takeRecord (s : State) (p : Ctx) (c : Nat) (pausePending : Bool) (probed : Word)
    (words : List Word) : State :=
  match decodeRecord c probed words with
  | .error reason => s.enterFaulted p reason c
  | .ok cue => s.startCue p cue pausePending

/-! ### Posts and ticks at a context (R48, R72, R77) -/

/-- A post reaches a context (R72, R76). -/
def State.takePost (s : State) (p : Ctx) (e : EventId) : State :=
  let s1 := s.modCtx p fun c => c.arrive e
  match (s.ctx p).activity with
  | .running cue (.wait (.event id _ _)) => if id = e then s1.completeNormally p cue else s1
  | _ => s1

/-- Whether the next tick at a context ends its count (R48). -/
def Context.lastTick (c : Context) : Bool :=
  match c.activity with
  | .running _ (.fade n) => n ≤ 1
  | .running _ (.hold n) => n ≤ 1
  | .running _ (.wait (.event _ t _)) => t == 1
  | _ => false

/-- A tick that does not end a context's count (R48). -/
def Context.countDown (c : Context) : Context :=
  match c.activity with
  | .running cue (.fade n) => { c with activity := .running cue (.fade (n - 1)) }
  | .running cue (.hold n) => { c with activity := .running cue (.hold (n - 1)) }
  | .running cue (.wait (.event e t f)) =>
      { c with activity := .running cue (.wait (.event e (t - 1) f)) }
  | _ => c

/-- The tick that ends a context's count: the fade completes, the hold expires, or the wait times out
(R49, R50, R53, R77). -/
def State.endCount (s : State) (p : Ctx) : State :=
  match (s.ctx p).activity with
  | .running cue (.fade _) => s.completeFade p cue
  | .running cue (.hold _) => s.completeNormally p cue
  | .running _ (.wait (.event _ _ field)) => s.enterFetch p field
  | _ => s

/-! ### GO, STOP, RELEASE (R55, R56, R60, R61) -/

/-- How a context answers a GO by its phase (R55, R56). -/
inductive GoVerdict where
  | take | busy | wrongPhase | noCue | faulted
  deriving DecidableEq, Repr

/-- The answer to a GO with or without a pointer field (R55, R56). -/
def Context.goVerdict (c : Context) (pointer : Option Half) : GoVerdict :=
  match c.activity with
  | .idle => if pointer.isNone && ptrEnd c.home then .noCue else .take
  | .fetch _ _ => .busy
  | .running _ _ => .take
  | .paused _ _ => .wrongPhase
  | .releasing => if pointer.isSome then .take else .wrongPhase
  | .faulted _ _ => .faulted

/-- A GO that is taken (R55, R56). -/
def State.takeGo (s : State) (p : Ctx) (pointer : Option Half) : State :=
  match pointer, (s.ctx p).activity with
  | some field, _ => s.enterFetch p field
  | none, .running cue _ => s.completeNormally p cue
  | none, _ => s.enterFetch p (s.ctx p).home

/-- A context withdraws its fetch request: a waiting one leaves the port with the resolution, a read in
progress goes on with no claimant (R19, R44). -/
def State.withdrawFetch (s : State) (p : Ctx) : State :=
  match s.store.port with
  | some (.fetch q kind w true) =>
    if q = p then s.modStore fun st => { st with port := some (.fetch q kind w false) } else s
  | _ => s

/-- A STOP that is taken (R60). -/
def State.takeStop (s : State) (p : Ctx) : State :=
  let s1 := s.removeClaims p
  match (s.ctx p).activity with
  | .idle => s1
  | .fetch _ _ => (s1.withdrawFetch p).enterIdle p .stopped
  | _ => s1.enterIdle p .stopped

/-- A context's claims are released, and a context that then holds none and is RELEASING enters IDLE
(R61, R62, R92, R95). -/
def State.releaseFrom (s : State) (p : Ctx) (fade : Nat) : State :=
  let s1 := s.releaseAll p fade
  if s1.mix.holdsClaim p then s1 else s1.takeClaimsGone p

/-- A RELEASE that is taken, in any phase but FETCH (R61). -/
def State.takeRelease (s : State) (p : Ctx) (fade : Nat) : State :=
  match (s.ctx p).activity with
  | .idle => if s.mix.holdsClaim p then (s.enter p .releasing).releaseFrom p fade else s
  | .fetch _ _ => s
  | .running _ _ => (s.enter p .releasing).releaseFrom p fade
  | .paused _ _ => ((s.endHold p).enter p .releasing).releaseFrom p fade
  | .releasing => s.releaseFrom p fade
  | .faulted _ _ => ((s.endHold p).enter p .releasing).releaseFrom p fade

/-! ### PAUSE and RESUME (R57, R59) -/

/-- A RESUME that is taken: the saved phase is entered with its count, and a count of 0 or an event
that has arrived completes at once (R59). -/
def State.takeResume (s : State) (p : Ctx) (cue : Cue) (saved : CuePhase) : State :=
  let s1 := s.endHold p
  match saved with
  | .fade n => s1.enterFade p cue n
  | .hold n =>
    let s2 := s1.enter p (.running cue (.hold n))
    if n = 0 then s2.completeNormally p cue else s2
  | .wait (.event e t f) =>
    let s2 := s1.enter p (.running cue (.wait (.event e t f)))
    if (s.ctx p).hasArrived e then s2.completeNormally p cue else s2
  | .wait .go => s1.enter p (.running cue (.wait .go))

end Sys2Proof.Machine
end

