-- ==== Sys2Proof/Machine/Store.lean ====
section
/-! DEFINITION. The Show Store (chapter 1): its five requests, the completion of each operation at the
port, the curve load of R101, and what a reset leaves of an operation in progress. -/

namespace Sys2Proof.Machine

/-! ### Taking the store requests (R5, R8, R9, R11, R13, R14, R102) -/

/-- A request becomes the link store operation and asks the port for a grant (R8, R16). -/
def State.startLinkOp (s : State) (op : LinkOp) : State :=
  State.arbitrate (s.modStore fun st => { st with linkOp := some op })

/-- The bank of a word (section 1.1). -/
def wordBank (w : Nat) : Nat := w / 1024

/-- Whether a bank is writable in a mask (R4). -/
def writable (mask : Half) (bank : Nat) : Bool := mask.getLsbD bank

/-- Whether every word of a program lies in a writable bank (R11). -/
def programWritable (mask : Half) (word : Nat) (n : Nat) : Bool :=
  (List.range n).all fun i => writable mask (wordBank (word + i))

/-- The field check of STORE_READ (R9). -/
def readFieldsOk (address : Half) (length : Byte) : Bool :=
  length != 0 && length.toNat ≤ Config.transferMax
    && address.toNat + length.toNat ≤ Config.storeBytes

/-- The field check of STORE_PROGRAM (R11). -/
def programFieldsOk (word : Half) (data : List Byte) : Bool :=
  word.toNat < Config.storeWords && data.length != 0 && data.length % 4 == 0
    && data.length ≤ Config.transferMax && word.toNat + data.length / 4 ≤ Config.storeWords

/-- STORE_READ (R9): taken, it has no reply until its read completes. -/
def State.takeStoreRead (s : State) (address : Half) (length : Byte) : State :=
  let r := Request.storeRead address length
  if !readFieldsOk address length then s.refuse r .badField
  else if s.store.lockActive then s.refuse r .locked
  else if s.store.linkOp.isSome then s.refuse r .busy
  else s.startLinkOp (.read address length)

/-- STORE_PROGRAM (R11). -/
def State.takeStoreProgram (s : State) (word : Half) (data : List Byte) : State :=
  let r := Request.storeProgram word data
  if !programFieldsOk word data then s.refuse r .badField
  else if s.store.lockActive then s.refuse r .locked
  else if !programWritable s.store.mask word.toNat (data.length / 4) then s.refuse r .protected_
  else if s.store.linkOp.isSome then s.refuse r .busy
  else (s.ack r).startLinkOp (.program word.toNat data)

/-- STORE_ERASE_FRAME (R13). -/
def State.takeEraseFrame (s : State) (frame : Byte) : State :=
  let r := Request.storeEraseFrame frame
  if 127 < frame.toNat then s.refuse r .badField
  else if s.store.lockActive then s.refuse r .locked
  else if !writable s.store.mask (frame.toNat / 8) then s.refuse r .protected_
  else if s.store.linkOp.isSome then s.refuse r .busy
  else (s.ack r).startLinkOp (.eraseFrame frame.toNat)

/-- STORE_ERASE_ALL (R14): no lock check. -/
def State.takeEraseAll (s : State) : State :=
  if s.store.mask != 0xFFFF then s.refuse .storeEraseAll .protected_
  else if s.store.linkOp.isSome then s.refuse .storeEraseAll .busy
  else (s.ack .storeEraseAll).startLinkOp .eraseAll

/-- SET_WRITE_ENABLE (R5). -/
def State.takeWriteEnable (s : State) (mask key : Half) : State :=
  let r := Request.setWriteEnable mask key
  if key != mask ^^^ 0xFFFF then s.refuse r .key
  else (s.ack r).modStore fun st => { st with mask := mask }

/-- RELOAD_CURVES (R102): taken, it has no reply until its load ends. -/
def State.takeReloadCurves (s : State) : State :=
  if s.store.linkOp.isSome then s.refuse .reloadCurves .busy
  else s.startLinkOp .reloadCurves

/-! ### The curve load (R101) -/

/-- The table that a store frame holds: entry n in bytes 2n and 2n + 1 (section 11.6.3). -/
def frameTable (m : Memory) (frame : Nat) : Vector Half 256 :=
  Vector.ofFn fun n => halfOf (m.read (512 * frame + 2 * n.val)) (m.read (512 * frame + 2 * n.val + 1))

/-- A slot of the curve RAM from a header's curve frame number: linear for 0, for 128 to 255 and for an
erased store frame (R101). -/
def slotFrom (m : Memory) (number : Byte) : CurveSlot :=
  if number = 0 ∨ 128 ≤ number.toNat then none
  else
    let t := frameTable m number.toNat
    if t.toList.all (fun d => d == 0xFFFF) then none else some t

/-- The three slots that a curve load gives: all linear where the header is invalid (R101). -/
def loadedSlots (m : Memory) : Vector CurveSlot 3 :=
  if m.headerValid then #v[slotFrom m (m.read 9), slotFrom m (m.read 10), slotFrom m (m.read 11)]
  else #v[none, none, none]

/-! ### Completions at the port (R10, R12, R13, R14, R102) -/

/-- The link's operation at the port completes: the port is free and the link store operation ends. -/
def State.endLinkOp (s : State) : State :=
  s.modStore fun st => { st with port := none, linkOp := none }

/-- The array takes a new content. -/
def State.setCells (s : State) (m : Memory) : State := s.modStore fun st => { st with cells := m }

/-- The lock test is made again (R7). -/
def State.testLock (s : State) : State :=
  s.modStore fun st => { st with lockActive := st.cells.lockTest }

/-- A STORE_READ completes (R10). -/
def State.completeRead (s : State) (address : Half) (length : Byte) : State :=
  (s.endLinkOp.reply
    (.storeData address (s.store.cells.readBytes address.toNat length.toNat))).arbitrate

/-- A STORE_PROGRAM completes: every word is programmed, then compared (R12). -/
def State.completeProgram (s : State) (word : Nat) (data : List Byte) : State :=
  let s1 := s.endLinkOp.setCells (s.store.cells.program (4 * word) data)
  let s2 := if word < Config.headerWords then s1.testLock else s1
  (s2.notify (.storeDone .program word
    (s2.store.cells.firstDifference (4 * word) data))).arbitrate

/-- A STORE_ERASE_FRAME completes (R13). -/
def State.completeEraseFrame (s : State) (frame : Nat) : State :=
  let s1 := s.endLinkOp.setCells (s.store.cells.eraseFrame frame)
  let s2 := if frame = 0 then s1.testLock else s1
  (s2.notify (.storeDone .eraseFrame frame none)).arbitrate

/-- A STORE_ERASE_ALL completes (R14). -/
def State.completeEraseAll (s : State) : State :=
  ((s.endLinkOp.setCells []).testLock.notify (.storeDone .eraseAll 0 none)).arbitrate

/-- A RELOAD_CURVES completes: the slots are filled, and the request is answered (R101, R102). -/
def State.completeReload (s : State) : State :=
  ((s.endLinkOp.fillCurves (loadedSlots s.store.cells)).ack .reloadCurves).arbitrate

/-! ### Fetch reads that complete (R18, R19) -/

/-- What a context makes of a completed read of its resolution (R33, R35, R36). -/
def State.takeWords (s : State) (p : Ctx) (kind : ReadKind) (word steps : Nat) (pausePending : Bool) :
    State :=
  match kind with
  | .linkStep => s.takeLinkStep p word steps pausePending (s.store.cells.word word)
  | .probe => s.takeProbe p word steps pausePending (s.store.cells.word word)
  | .record lead =>
    s.takeRecord p word pausePending lead (s.store.cells.words word (cueLength lead))

/-- A fetch read completes: the port is free, the words go to the context, or are discarded where it has
withdrawn (R18, R19). -/
def State.completeFetch (s : State) (p : Ctx) (kind : ReadKind) (word : Nat) (live : Bool) : State :=
  let s1 := s.modStore fun st => { st with port := none }
  State.arbitrate
    (if live then
      match (s.ctx p).activity with
      | .fetch r pausePending => s1.takeWords p kind word r.steps pausePending
      | _ => s1
    else s1)

/-! ### What a reset leaves of an operation in progress (R21) -/

/-- An erase interrupted over the addresses of a test: each byte holds its former value or 0xFF, as the
free values say (R21; log 10). -/
def Memory.interruptErase (m : Memory) (draw : Nat) (p : Nat → Bool) : Memory :=
  m.filter fun c => !p c.1 || Config.interruptedKeeps draw c.1

/-- Bytes of the interrupted word: each keeps its former value or takes the AND (R21; log 10). -/
def Memory.interruptWord : Memory → Nat → Nat → List Byte → Memory
  | m, _, _, [] => m
  | m, draw, a, v :: vs =>
    Memory.interruptWord (if Config.interruptedKeeps draw a then m else m.programByte a v)
      draw (a + 1) vs

/-- A program interrupted at one of its words (R21; log 10). -/
def Memory.interruptProgram (m : Memory) (draw word : Nat) (data : List Byte) : Memory :=
  let k := Config.interruptedWord draw % (data.length / 4)
  (m.program (4 * word) (data.take (4 * k))).interruptWord draw (4 * (word + k))
    ((data.drop (4 * k)).take 4)

/-- The array that a reset leaves, and the draw counter after it (R21). -/
def State.arrayAtReset (s : State) : Memory × Nat :=
  match s.store.port, s.store.linkOp with
  | some .link, some (.program word data) =>
    (s.store.cells.interruptProgram s.free word data, s.free + 1)
  | some .link, some (.eraseFrame f) =>
    (s.store.cells.interruptErase s.free (fun a => a / 512 == f), s.free + 1)
  | some .link, some .eraseAll =>
    (s.store.cells.interruptErase s.free (fun _ => true), s.free + 1)
  | _, _ => (s.store.cells, s.free)

end Sys2Proof.Machine
end

