-- ==== Sys2Proof/Machine/Trigger.lean ====
section
/-! DEFINITION. The Input and Trigger Unit (chapters 7 and 8): firings, the pending trigger queue and its
examination, held-by sets, matchers, accepted changes and the tick at TRIG. -/

namespace Sys2Proof.Machine

/-! ### Offers to the contexts (R54 to R61, R155) -/

/-- A context's answer to an offered delivery (R54). -/
inductive Answer where
  | taken
  | waits
  | refused (reason : Reason)
  deriving DecidableEq, Repr

/-- A context's answer to a delivery by its phase (the table of R155). -/
def Context.answer (c : Context) (d : Delivery) : Answer :=
  match d with
  | .go pointer =>
    match c.goVerdict pointer with
    | .take => .taken
    | .busy => .waits
    | .wrongPhase => .waits
    | .noCue => .refused .noCue
    | .faulted => .refused .faulted
  | .release _ =>
    match c.activity with
    | .fetch _ _ => .waits
    | _ => .taken
  | .stop => .taken

/-- The effect of a delivery that a context takes (R55, R56, R60, R61). -/
def State.deliver (s : State) (p : Ctx) (d : Delivery) : State :=
  match d with
  | .go pointer => s.takeGo p pointer
  | .release fade => s.takeRelease p fade
  | .stop => s.takeStop p

/-- The action of a delivery (R154). -/
def Delivery.action : Delivery → Action
  | .go _ => .go
  | .release _ => .release
  | .stop => .stop

/-- A context that takes a GO from a LEVEL entry's record joins its held-by set (R139). -/
def State.joinHeldBy (s : State) (src : Source) (p : Ctx) : State :=
  match src with
  | .line l =>
    if (s.trigger l).config.sense = .level then
      s.modTrigger l fun t => { t with heldBy := t.heldBy ||| ctxBit p }
    else s
  | .matcher _ => s

/-- One offer of a record to a context: the record and state after it, and the context's answer (R156,
R157, R158). A taker leaves the remaining set and TRIG knows the phase in which it then stands (R155;
log 25); a refuser leaves it with a TRIGGER_REFUSED notice. -/
def State.offer (s : State) (r : DeliveryRecord) (p : Ctx) : Answer × DeliveryRecord × State :=
  match (s.ctx p).answer r.delivery with
  | .taken =>
    let s1 := s.deliver p r.delivery
    let s2 := s1.setKnown p (s1.ctx p).phase
    let r1 := { r with remaining := ctxOut r.remaining p }
    match r.delivery with
    | .go _ => (.taken, { r1 with taken := true }, s2.joinHeldBy r.source p)
    | _ => (.taken, r1, s2)
  | .waits => (.waits, r, s)
  | .refused why =>
    (.refused why, { r with remaining := ctxOut r.remaining p },
     s.notify (.triggerRefused r.source p r.delivery.action why))

/-- A FIXED record is offered to each context of its remaining set, P0 first (R156). -/
def State.serveFixed (s : State) (r : DeliveryRecord) : DeliveryRecord × Bool × State :=
  let z := allCtx.foldl (fun (acc : DeliveryRecord × State) p =>
    if ctxIn p r.remaining then (acc.2.offer acc.1 p).2 else acc) (r, s)
  (z.1, z.1.remaining == 0, z.2)

/-- The course of a FIRST_IDLE service over a list of contexts: the record, the state, and whether the
service has ended, and if so whether complete. -/
inductive Course where
  | goingOn | complete | stays
  deriving DecidableEq, Repr

/-- A FIRST_IDLE record offered, in turn, to the candidates that TRIG knows to be in a phase; taking
completes the service and waiting ends it (R157). -/
def State.serveKnown (s : State) (r : DeliveryRecord) (ph : Phase) :
    List Ctx → Course × DeliveryRecord × State
  | [] => (.goingOn, r, s)
  | p :: ps =>
    if ctxIn p r.remaining && s.trig.known[p] == ph then
      match s.offer r p with
      | (.taken, r1, s1) => (.complete, r1, s1)
      | (.waits, r1, s1) => (.stays, r1, s1)
      | (.refused _, r1, s1) => State.serveKnown s1 r1 ph ps
    else State.serveKnown s r ph ps

/-- A FIRST_IDLE record: the candidates known FAULTED, then the lowest candidate known IDLE (R157). -/
def State.serveFirstIdle (s : State) (r : DeliveryRecord) : DeliveryRecord × Bool × State :=
  match s.serveKnown r .faulted allCtx with
  | (.complete, r1, s1) => (r1, true, s1)
  | (.stays, r1, s1) => (r1, false, s1)
  | (.goingOn, r1, s1) =>
    match s1.serveKnown r1 .idle allCtx with
    | (.complete, r2, s2) => (r2, true, s2)
    | (.stays, r2, s2) => (r2, false, s2)
    | (.goingOn, r2, s2) => (r2, r2.remaining == 0, s2)

/-- A record is served as its delivery mode requires: the record and state after it, and whether its
service is complete (R156, R157). -/
def State.serveRecord (s : State) (r : DeliveryRecord) : DeliveryRecord × Bool × State :=
  match r.mode with
  | .fixed => s.serveFixed r
  | .firstIdle => s.serveFirstIdle r

/-! ### Firings (R136, R137, R138, R150) -/

/-- Whether a record from a source stands in the queue (R138). -/
def State.isQueued (s : State) (src : Source) : Bool := s.trig.queue.any (fun r => r.source == src)

/-- The outcome of a firing by its action and the queue (R136, R138, R150). -/
def State.firingOutcome (s : State) (src : Source) (f : Firing) : FiringOutcome :=
  match f.action with
  | .event => .posted
  | _ =>
    if s.isQueued src then .coalesced
    else if Config.queuePlaces ≤ s.trig.queue.length then .missed
    else .appended

/-- What a firing's record delivers (R137). An EVENT firing makes no record. -/
def Firing.delivery (f : Firing) : Delivery :=
  match f.action with
  | .go => .go f.pointer
  | .release => .release f.fade.toNat
  | .stop => .stop
  | .event => .stop

/-- The delivery record that a firing builds (R137, R154). -/
def Firing.record (f : Firing) (src : Source) : DeliveryRecord :=
  { source := src, delivery := f.delivery, mode := f.mode, remaining := f.targets,
    expiry := if f.expiry = 0 then none else some f.expiry.toNat, taken := false }

/-- A record joins the queue at its tail (R153). -/
def State.append (s : State) (r : DeliveryRecord) : State := s.setQueue (s.trig.queue ++ [r])

/-- The event id that a source posts: the line number, or 24 plus the matcher number (R136, R150). -/
def sourceEvent (src : Source) : EventId :=
  match src with
  | .line l => ⟨l.val, by omega⟩
  | .matcher m => ⟨24 + m.val, by omega⟩

/-- A source's coalesced mark is set (R138, R150). -/
def State.markCoalesced (s : State) (src : Source) : State :=
  match src with
  | .line l => s.modTrigger l fun t => { t with coalesced := true }
  | .matcher m => s.modMatcher m fun t => { t with coalesced := true }

/-- A source's missed mark is set (R138, R150). -/
def State.markMissed (s : State) (src : Source) : State :=
  match src with
  | .line l => s.modTrigger l fun t => { t with missed := true }
  | .matcher m => s.modMatcher m fun t => { t with missed := true }

/-- A firing acts, by its outcome; an append brings no examination here (R136, R138, R150). -/
def State.act (s : State) (src : Source) (f : Firing) : State :=
  match s.firingOutcome src f with
  | .posted => s.post (sourceEvent src)
  | .appended => s.append (f.record src)
  | .coalesced => s.markCoalesced src
  | .missed => (s.markMissed src).notify (.triggerMissed src f.action)

/-! ### LEVEL entries (R133, R135) -/

/-- The group of a line. -/
def lineGroup (l : Line) : Fin 3 := ⟨l.val / 8, by omega⟩

/-- Whether the group of a line is enabled (R130). -/
def State.groupEnabled (s : State) (l : Line) : Bool := (s.trig.groups[lineGroup l]).enable

/-- A line is active for its trigger entry (R133); before its first sample it is inactive (R129). -/
def State.lineActive (s : State) (l : Line) : Bool :=
  (s.trig.lines[l]).sampled && ((s.trig.lines[l]).high != (s.trigger l).config.activeLow)

/-- The level condition of a LEVEL entry (R135). -/
def State.levelHolds (s : State) (l : Line) : Bool :=
  let t := s.trigger l
  t.config.sense == .level && s.lineActive l && t.config.enabled && s.groupEnabled l
    && t.heldBy == 0 && !s.isQueued (.line l) && !t.resting

/-- Lines, IN0 first. -/
def allLines : List Line := List.finRange 24

/-- A test of an entry's level condition within an examination: a firing's append is reached by the
examination under way (R135, R155). -/
def State.testInWalk (s : State) (l : Line) : State :=
  if s.levelHolds l then s.act (.line l) (s.trigger l).config.firing else s

/-! ### Removal and examination (R155, R159) -/

/-- The resting mark at a record's removal: set where its source is a LEVEL entry and no context has
taken its GO (R141, R159). -/
def State.restAtRemoval (s : State) (r : DeliveryRecord) : State :=
  match r.source with
  | .line l =>
    if (s.trigger l).config.sense = .level ∧ r.taken = false then
      s.modTrigger l fun t => { t with resting := true }
    else s
  | .matcher _ => s

/-- A record leaves the queue; the records behind it keep their order (R153). -/
def State.dequeue (s : State) (src : Source) : State :=
  s.setQueue (s.trig.queue.filter fun r => r.source != src)

/-- A record's removal (R159), with the test that each LEVEL entry is given. -/
def State.removeRecord (test : State → Line → State) (s : State) (r : DeliveryRecord) : State :=
  allLines.foldl test ((s.restAtRemoval r).dequeue r.source)

/-- An examination's walk from a place of the queue on: each record is served, and removed where its
service is complete; a record that expires at the tick being taken is passed over (R155; log 15). The
first argument bounds the records reached (log 16). -/
def State.walk : Nat → Nat → State → State
  | 0, _, s => s
  | k + 1, i, s =>
    match s.trig.queue[i]? with
    | none => s
    | some r =>
      if r.expiry = some 0 then State.walk k (i + 1) s
      else
        match s.serveRecord r with
        | (r1, done, s1) =>
          let s2 := s1.setQueue (s1.trig.queue.set i r1)
          if done then State.walk k i (s2.removeRecord State.testInWalk r1)
          else State.walk k (i + 1) s2

/-- The most records that one walk can reach: the 16 that stand, and one append for each LEVEL entry
(log 16). -/
def walkBound : Nat := 64

/-- The walk of an examination, and the reports that contexts made in it (R155). -/
def State.walkOnce (s : State) : State × List Report :=
  let t := State.walk walkBound 0 { s with reports := [] }
  ({ t with reports := s.reports }, t.reports)

/-! ### Phase reports (R155, R198) -/

/-- The entries whose held-by set becomes empty when a context leaves it (R140). -/
def State.emptiedBy (s : State) (p : Ctx) : List Line :=
  allLines.filter fun l => ctxIn p (s.trigger l).heldBy && ctxOut (s.trigger l).heldBy p == 0

/-- A context leaves every held-by set (R139). -/
def State.leaveHeldBy (s : State) (p : Ctx) : State :=
  let after : Vector Trigger 24 :=
    Vector.ofFn fun l =>
      { s.trig.triggers[l] with heldBy := ctxOut (s.trig.triggers[l]).heldBy p }
  { s with trig := { s.trig with triggers := after } }

/-- A test of an entry's level condition while reports are owed: a firing is taken whole, with the
examination that an append brings, and that examination takes the reports owed (R135, R155, R198). -/
def State.testOwing (ex : State → List Report → State) (z : State × List Report) (l : Line) :
    State × List Report :=
  if z.1.levelHolds l then
    let f := (z.1.trigger l).config.firing
    match z.1.firingOutcome (.line l) f with
    | .appended => (ex (z.1.act (.line l) f) z.2, [])
    | _ => (z.1.act (.line l) f, z.2)
  else z

/-- TRIG takes a phase report while others are owed to it: its knowledge, the held-by work, and the
examination that the report brings (R155, R198). -/
def State.takeReportWith (ex : State → List Report → State) (s : State) (r : Report)
    (owed : List Report) : State :=
  let s1 := s.setKnown r.p r.phase
  if r.phase = .idle then
    let z := (s1.emptiedBy r.p).foldl (State.testOwing ex) (s1.leaveHeldBy r.p, owed)
    ex z.1 z.2
  else ex s1 owed

/-- TRIG takes the reports owed to it by walks that have ended, in the order made, each with the walk of
the examination it brings, whose reports join behind (R155). A report that its context made before these
and that still stands is taken before them (R42; log 11). The first argument bounds the reports taken; any
beyond it stand as others do (log 16). -/
def State.takeOwed : Nat → State → List Report → State
  | 0, s, owed => { s with reports := s.reports ++ owed }
  | _ + 1, s, [] => s
  | k + 1, s, r :: rs =>
    let ex := fun (t : State) (owed : List Report) =>
      let w := t.walkOnce
      State.takeOwed k w.1 (owed ++ w.2)
    match s.reports.find? (fun q => q.p == r.p) with
    | some q => State.takeReportWith ex { s with reports := s.reports.erase q } q (r :: rs)
    | none => State.takeReportWith ex s r rs

/-- The most reports taken at one examination, beside those that stood (log 16). -/
def owedBound : Nat := 1024

/-- TRIG examines the queue while reports are owed to it: the walk, then the reports (R155). -/
def State.examineOwing (s : State) (owed : List Report) : State :=
  let w := s.walkOnce
  State.takeOwed (owedBound + s.reports.length) w.1 (owed ++ w.2)

/-- TRIG examines the pending trigger queue (R155). -/
def State.examine (s : State) : State := s.examineOwing []

/-- TRIG takes a phase report that stood (R155, R198). -/
def State.takeReport (s : State) (r : Report) : State := s.takeReportWith State.examineOwing r []

/-! ### Firings and tests outside a walk -/

/-- A firing is taken whole, with the examination that an append brings (R138, R155, R198). -/
def State.fire (s : State) (src : Source) (f : Firing) : State :=
  match s.firingOutcome src f with
  | .appended => (s.act src f).examine
  | _ => s.act src f

/-- A test of an entry's level condition (R135). -/
def State.testLevel (s : State) (l : Line) : State :=
  if s.levelHolds l then s.fire (.line l) (s.trigger l).config.firing else s

/-! ### Matchers (R148, R149, R150) -/

/-- Whether a change matches a step (R147). -/
def stepMatches (b : Byte) (l : Line) (high : Bool) : Bool :=
  stepLine b == l.val && high != stepFalling b

/-- The step at an index; there are eight (R146). -/
def MatcherConfig.step (c : MatcherConfig) (i : Nat) : Byte := c.steps.toList.getD i 0

/-- A matcher after a step is met at an index, and whether it fires (R148). -/
def Matcher.meet (m : Matcher) (i : Nat) : Matcher × Bool :=
  if i + 1 = m.config.stepCount then ({ m with progress := 0, gapRemaining := 0 }, true)
  else ({ m with progress := i + 1, gapRemaining := m.config.gap }, false)

/-- A matcher takes an accepted change: the matcher after it, and whether it fires (R147, R148). -/
def Matcher.take (m : Matcher) (l : Line) (high : Bool) : Matcher × Bool :=
  if !m.config.enabled then (m, false)
  else if stepMatches (m.config.step m.progress) l high then m.meet m.progress
  else if stepMatches (m.config.step 0) l high then m.meet 0
  else ({ m with progress := 0, gapRemaining := 0 }, false)

/-- A matcher fires: MATCHED is queued first, then the firing acts (R150). -/
def State.fireMatcher (s : State) (m : Fin 2) : State :=
  let f := (s.trig.matchers[m]).config.firing
  (s.notify (.matched m f.action (s.firingOutcome (.matcher m) f))).fire (.matcher m) f

/-- A change is offered to both matchers, which take it independently; where both fire, in any order
(R147; log 9). -/
def State.offerChange (s : State) (l : Line) (high : Bool) : State :=
  let a := (s.trig.matchers[0]).take l high
  let b := (s.trig.matchers[1]).take l high
  let s1 := (s.modMatcher 0 fun _ => a.1).modMatcher 1 fun _ => b.1
  let firing := (if a.2 then [(0 : Fin 2)] else []) ++ (if b.2 then [(1 : Fin 2)] else [])
  let r := s1.anyOrder firing
  r.1.foldl State.fireMatcher r.2

/-- A matcher takes a tick (R149). -/
def Matcher.tick (m : Matcher) : Matcher :=
  if m.progress = 0 then m
  else if m.gapRemaining ≤ 1 then { m with progress := 0, gapRemaining := 0 }
  else { m with gapRemaining := m.gapRemaining - 1 }

/-! ### The tick at TRIG (R149, R160) -/

/-- A record takes a tick (R160). -/
def DeliveryRecord.tick (r : DeliveryRecord) : DeliveryRecord :=
  { r with expiry := r.expiry.map (· - 1) }

/-- A record that has expired is removed, with TRIGGER_EXPIRED (R160). -/
def State.expireRecord (s : State) (src : Source) : State :=
  match s.trig.queue.find? (fun r => r.source == src) with
  | none => s
  | some r =>
    State.removeRecord State.testLevel
      (s.notify (.triggerExpired src r.delivery.action r.remaining)) r

/-- A tick at TRIG: the matchers' gaps, then the records' expiries, those that reach 0 removed oldest
first (R149, R160). -/
def State.tickTrig (s : State) : State :=
  let s1 := (s.modMatcher 0 Matcher.tick).modMatcher 1 Matcher.tick
  let q := s1.trig.queue.map DeliveryRecord.tick
  ((q.filter fun r => r.expiry == some 0).map DeliveryRecord.source).foldl
    State.expireRecord (s1.setQueue q)

/-! ### Changes and samples of lines (R127, R128, R129) -/

/-- The filter length of a line's group (R127). -/
def State.filterLength (s : State) (l : Line) : Nat := (s.trig.groups[lineGroup l]).filter

/-- Whether a sample of a level completes a run: it differs from the filtered level and is the
(f + 1)-th of its run (R127). -/
def State.acceptsChange (s : State) (l : Line) (high : Bool) : Bool :=
  (s.trig.lines[l]).high != high && s.filterLength l ≤ (s.trig.lines[l]).run

/-- Steps 2 and 3 of an accepted change at the line's trigger entry (R128, R134, R135, R141). -/
def State.entryChange (s : State) (l : Line) : State :=
  let t := s.trigger l
  match t.config.sense with
  | .edge =>
    if s.lineActive l && t.config.enabled && s.groupEnabled l then
      s.fire (.line l) t.config.firing
    else s
  | .level =>
    if s.lineActive l then s.testLevel l
    else s.modTrigger l fun t => { t with resting := false }

/-- TRIG acts on an accepted change of a line to a level (R128). -/
def State.acceptChange (s : State) (l : Line) (high : Bool) : State :=
  let s1 := s.modLine l fun f => { f with high := high, run := 0 }
  let s2 := if (s1.trig.groups[lineGroup l]).report then s1.notify (.input l high) else s1
  let s3 := s2.entryChange l
  if s3.groupEnabled l then s3.offerChange l high else s3

/-- The first sample of a line after start-up (R129). -/
def State.takeFirstSample (s : State) (l : Line) (high : Bool) : State :=
  (s.modLine l fun _ => { high := high, run := 0, sampled := true }).testLevel l

end Sys2Proof.Machine
end

