-- ==== Sys2Proof/Machine/Startup.lean ====
section
/-! DEFINITION. The course from a reset to running (chapter 9, section 11.7): the reset of the whole part,
the header's items, and the end of start-up. The host link's part of the end is in Requests. -/

namespace Sys2Proof.Machine

/-! ### A reset (R21, R168, R169) -/

/-- A reset of a cause falls on the whole part (R168). -/
def State.partReset (s : State) (cause : ResetCause) : State :=
  let a := s.arrayAtReset
  State.afterReset a.1 cause s.clk.cause s.link.hold s.link.rate a.2 s.pending

/-- The cause under which a reset is held when RESET_N goes low: a POWER reset that is held stays one
(R169; log 21). -/
def Clock.pinCause (c : Clock) : ResetCause :=
  match c.stage with
  | .inReset .power => .power
  | _ => .pin

/-- The reset ends: its cause is recorded, the link rate is fixed, and start-up begins (R169, R171,
R176). -/
def State.endReset (s : State) (cause : ResetCause) (baudHigh : Bool) : State :=
  (s.modClk fun c => { c with stage := .readingHeader, cause := cause }).modLink
    fun l => { l with rate := if baudHigh then .fast else .slow }

/-! ### The header's items (R172, R197; section 11.7) -/

/-- The tick code (R197). -/
def Memory.tickCode (m : Memory) : Fin 4 := (byteFin 4 (m.read 3)).getD 3

/-- The write-enable word (R4). -/
def Memory.writeEnable (m : Memory) : Half := halfOf (m.read 4) (m.read 5)

/-- The mode of a fault source (R126, R197). -/
def Memory.faultMode (m : Memory) (src : Fin 2) : FaultMode :=
  (faultModeOf (m.read (7 + src.val))).getD .latch

/-- The autostart pointer field of a context (R67). -/
def Memory.autostart (m : Memory) (p : Ctx) : Half :=
  halfOf (m.read (12 + 2 * p.val)) (m.read (12 + 2 * p.val + 1))

/-- A group's configuration (R145, R197). -/
def Memory.group (m : Memory) (g : Fin 3) : Group :=
  (GroupEntry.config (GroupEntry.at m.read (20 + 3 * g.val))).getD .default

/-- A channel's configuration (R108, R126, R197). -/
def Memory.channel (m : Memory) (ch : Chan) : ChannelConfig :=
  (ChannelEntry.config (ChannelEntry.at m.read (32 + 8 * ch.val)) ch).getD .default

/-- A trigger entry's configuration (R145, R197). -/
def Memory.triggerEntry (m : Memory) (l : Line) : TriggerConfig :=
  (TriggerEntry.config (TriggerEntry.at m.read (160 + 10 * l.val))).getD .default

/-- A matcher's configuration (R163, R197). -/
def Memory.matcherEntry (m : Memory) (k : Fin 2) : MatcherConfig :=
  (MatcherEntry.config (MatcherEntry.at m.read (400 + 20 * k.val))).getD .default

/-- STORE takes its items: the live mask and the lock test (R4, R6). -/
def State.loadStore (s : State) : State :=
  s.modStore fun st =>
    { st with mask := if st.cells.headerValid then st.cells.writeEnable else 0xFFFF,
              lockActive := st.cells.lockTest }

/-- PLAY takes the autostart pointer fields as home pointers (R67). With an invalid header a context has no
home pointer: END is set, and the other fifteen bits are the model's choice, as erased (log 31). -/
def State.loadHomes (s : State) : State :=
  let homes : Vector Context 4 :=
    Vector.ofFn fun p => { s.contexts[p] with
      home := if s.store.cells.headerValid then s.store.cells.autostart p else 0xFFFF }
  { s with contexts := homes }

/-- The configuration that start-up gives a channel. -/
def State.startConfig (s : State) (ch : Chan) : ChannelConfig :=
  if s.store.cells.headerValid then s.store.cells.channel ch else .default

/-- A channel in the mixer with its items: the odd partner of a channel loaded PAIR becomes a secondary
(R107, R108). -/
def MixChannel.load (c : MixChannel) (cfg : ChannelConfig) (paired : Bool) : MixChannel :=
  let c1 := { c with arbitration := cfg.arbitration, curve := cfg.curve }
  if paired then c1.becomeSecondary else { c1 with secondary := false }

/-- MIX takes each channel's arbitration and curve, and the secondary marks (R107, R108). -/
def State.loadMixer (s : State) : State :=
  let chans : Vector MixChannel 16 :=
    Vector.ofFn fun ch =>
      (s.mix.channels[ch]).load (s.startConfig ch)
        (isOdd ch && (s.startConfig (evenPartner ch)).mode == .pair)
  { s with mix := { s.mix with channels := chans } }

/-- OUT takes each channel's output fields, in force from the end of start-up (R126; log 18), and the
fault source modes. -/
def State.loadOutput (s : State) : State :=
  let chans : Vector OutChannel 16 :=
    Vector.ofFn fun ch => { s.out.channels[ch] with loaded := some (s.startConfig ch) }
  let srcs : Vector FaultSource 2 :=
    Vector.ofFn fun k => { s.out.sources[k] with
      mode := if s.store.cells.headerValid then s.store.cells.faultMode k else .latch }
  { s with out := { channels := chans, sources := srcs } }

/-- TRIG takes the groups, the trigger entries and the matchers (R145, R163). -/
def State.loadTrigger (s : State) : State :=
  let m := s.store.cells
  let gs : Vector Group 3 :=
    Vector.ofFn fun g => if m.headerValid then m.group g else .default
  let ts : Vector Trigger 24 :=
    Vector.ofFn fun l => { s.trig.triggers[l] with
      config := if m.headerValid then m.triggerEntry l else .default }
  let ms : Vector Matcher 2 :=
    Vector.ofFn fun k => { s.trig.matchers[k] with
      config := if m.headerValid then m.matcherEntry k else .default }
  { s with trig := { s.trig with groups := gs, triggers := ts, matchers := ms } }

/-- CLK takes the tick code; the curve load comes next (R172, R173). -/
def State.loadClock (s : State) : State :=
  let valid := s.store.cells.headerValid
  s.modClk fun c =>
    { c with tickCode := if valid then s.store.cells.tickCode else 3, stage := .loadingCurves valid }

/-- The header has been read, and each block takes its items (R171, R172). -/
def State.readHeader (s : State) : State :=
  s.loadStore.loadHomes.loadMixer.loadOutput.loadTrigger.loadClock

/-! ### The end of start-up (R126, R173 to R175) -/

/-- The curve RAM is filled, and every channel's level translated and its duty handed (R173). -/
def State.startCurves (s : State) : State :=
  (s.fillCurves (loadedSlots s.store.cells)).translateAll

/-- The output settings that a channel starts with: those loaded, with the duty handed (R126). -/
def OutChannel.startSettings (c : OutChannel) (cfg : ChannelConfig) : OutSettings :=
  { mode := cfg.mode, period := cfg.period, deadTime := cfg.deadTime, duty := c.buffered.duty }

/-- A channel's configuration at the end of start-up. -/
def OutChannel.startConfig (c : OutChannel) : ChannelConfig := c.loaded.getD .default

/-- The loaded output fields become active and buffered together, and pairs are formed (R126). -/
def State.startOutput (s : State) : State :=
  let chans : Vector OutChannel 16 :=
    Vector.ofFn fun ch =>
      let c := s.out.channels[ch]
      let cfg := c.startConfig
      { c with buffered := c.startSettings cfg, active := c.startSettings cfg, safe := cfg.safe,
               mask := cfg.mask, loaded := none,
               paired := isOdd ch && (s.out.channels[evenPartner ch]).startConfig.mode == .pair }
  { s with out := { s.out with channels := chans } }

/-- The link queues STARTED, and the phase becomes RUNNING (R174); the interval now running has the
loaded tick code (log 26). -/
def State.startRunning (s : State) (valid : Bool) : State :=
  (s.notify (.started s.clk.cause valid s.store.lockActive)).modClk
    fun c => { c with stage := .running, intervalCode := c.tickCode }

/-- The contexts whose home pointer has END clear (R175). -/
def State.autostarts (s : State) : List Ctx := allCtx.filter fun p => !ptrEnd (s.ctx p).home

/-- The autostart GOs, in any order (R175; log 9). -/
def State.autostart (s : State) : State :=
  let r := s.anyOrder s.autostarts
  r.1.foldl (fun t p => t.takeGo p none) r.2

/-- The end of start-up at every block but the link's buffered request (R173, R174; log 22). -/
def State.endStartUp (s : State) (valid : Bool) : State :=
  ((s.startCurves.startRunning valid).startOutput).autostart.examine

end Sys2Proof.Machine
end

