-- ==== Sys2Proof/Machine/Requests.lean ====
section
/-! DEFINITION. The host's requests at their owning blocks (section 10.7), but those of the store; their
dispatch; and the arrival of a frame at the inbound places (R181 to R184). -/

namespace Sys2Proof.Machine

/-! ### Playback contexts (R54 to R61, R66, R68) -/

/-- A GO with or without a pointer field, at a context (R55, R56). -/
def State.takeGoRequest (s : State) (r : Request) (context : Byte) (pointer : Option Half) : State :=
  match byteFin 4 context with
  | none => s.refuse r .badField
  | some p =>
    match (s.ctx p).goVerdict pointer with
    | .take => (s.ack r).takeGo p pointer
    | .busy => s.refuse r .busy
    | .wrongPhase => s.refuse r .state
    | .noCue => s.refuse r .noCue
    | .faulted => s.refuse r .faulted

/-- PAUSE (R57). -/
def State.takePauseRequest (s : State) (context : Byte) : State :=
  let r := Request.pause context
  match byteFin 4 context with
  | none => s.refuse r .badField
  | some p =>
    match (s.ctx p).activity with
    | .running cue at_ => ((s.ack r).enter p (.paused cue at_)).holdClaims p
    | .fetch res _ => (s.ack r).modCtx p fun c => { c with activity := .fetch res true }
    | _ => s.refuse r .state

/-- RESUME (R59). -/
def State.takeResumeRequest (s : State) (context : Byte) : State :=
  let r := Request.resume context
  match byteFin 4 context with
  | none => s.refuse r .badField
  | some p =>
    match (s.ctx p).activity with
    | .paused cue saved => (s.ack r).takeResume p cue saved
    | _ => s.refuse r .state

/-- STOP (R60). -/
def State.takeStopRequest (s : State) (context : Byte) : State :=
  let r := Request.stop context
  match byteFin 4 context with
  | none => s.refuse r .badField
  | some p => (s.ack r).takeStop p

/-- RELEASE (R61). -/
def State.takeReleaseRequest (s : State) (context : Byte) (fade : Half) : State :=
  let r := Request.release context fade
  match byteFin 4 context with
  | none => s.refuse r .badField
  | some p =>
    if fade.toNat = Config.noFade then s.refuse r .badField
    else
      match (s.ctx p).activity with
      | .fetch _ _ => s.refuse r .busy
      | _ => (s.ack r).takeRelease p fade.toNat

/-- CONFIG_CONTEXT (R66), with the examination it brings (R155). -/
def State.takeConfigContext (s : State) (context : Byte) (home : Half) (report : Byte) : State :=
  let r := Request.configContext context home report
  match byteFin 4 context with
  | none => s.refuse r .badField
  | some p =>
    ((s.ack r).modCtx p fun c => { c with home := home, report := report.getLsbD 0 }).examine

/-- QUERY_CONTEXT (R68). -/
def State.takeQueryContext (s : State) (context : Byte) : State :=
  match byteFin 4 context with
  | none => s.refuse (.queryContext context) .badField
  | some p => s.reply (.contextInfo p (s.ctx p))

/-! ### Events and counter cells (R80, R85, R86) -/

/-- POST_EVENT (R80). -/
def State.takePostEvent (s : State) (event : Byte) : State :=
  let r := Request.postEvent event
  match byteFin 32 event with
  | none => s.refuse r .badField
  | some e => (s.ack r).post e

/-- SET_COUNTER (R85). -/
def State.takeSetCounter (s : State) (cell value : Byte) : State :=
  let r := Request.setCounter cell value
  match byteFin 16 cell with
  | none => s.refuse r .badField
  | some k => { s.ack r with cells := s.cells.set k value }

/-- QUERY_COUNTERS (R86). -/
def State.takeQueryCounters (s : State) : State := s.reply (.counterInfo s.cells)

/-! ### Channels (R103 to R107, R114) -/

/-- SET_LEVEL (R103). -/
def State.takeSetLevel (s : State) (channel level : Byte) (fade : Half) (priority : Byte) : State :=
  let r := Request.setLevel channel level fade priority
  match byteFin 16 channel, byteFin 8 priority with
  | some ch, some prio =>
    if fade.toNat = Config.noFade then s.refuse r .badField
    else if (s.mixCh ch).secondary then s.refuse r .slaved
    else (s.ack r).claimArrives ch .link level fade.toNat prio
  | _, _ => s.refuse r .badField

/-- The link's claim on a channel is released, if there is one (R92, R104). -/
def State.releaseLink (s : State) (ch : Chan) (fade : Nat) : State :=
  s.updateClaims fun c who v => if c = ch ∧ who = .link then v.release fade else some v

/-- RELEASE_LEVEL (R104). -/
def State.takeReleaseLevel (s : State) (channel : Byte) (fade : Half) : State :=
  let r := Request.releaseLevel channel fade
  match byteFin 16 channel with
  | none => s.refuse r .badField
  | some ch =>
    if fade.toNat = Config.noFade then s.refuse r .badField
    else if (s.mixCh ch).secondary then s.refuse r .slaved
    else (s.ack r).releaseLink ch fade.toNat

/-- QUERY_CHANNEL (R105). -/
def State.takeQueryChannel (s : State) (channel : Byte) : State :=
  match byteFin 16 channel with
  | none => s.refuse (.queryChannel channel) .badField
  | some ch => s.reply (.channelInfo ch (s.mixCh ch) s.mix.held)

/-- The effect of a CONFIG_CHANNEL at the mixer and the output stage, with the claims-gone reports of a
new secondary's claims (R106, R107, R114). -/
def State.configureChannel (s : State) (ch : Chan) (cfg : ChannelConfig) : State :=
  let s1 := (s.mixConfig ch cfg).outConfig ch cfg
  s1.takeAllGone (claimsGone s.mix s1.mix)

/-- CONFIG_CHANNEL (R114). -/
def State.takeConfigChannel (s : State) (channel : Byte) (entry : ChannelEntry) : State :=
  let r := Request.configChannel channel entry
  match byteFin 16 channel with
  | none => s.refuse r .badField
  | some ch =>
    match ChannelEntry.config entry ch with
    | none => s.refuse r .badField
    | some cfg => (s.ack r).configureChannel ch cfg

/-! ### Fault sources (R124, R125) -/

/-- CONFIG_FAULT (R125). -/
def State.takeConfigFault (s : State) (source mode : Byte) : State :=
  let r := Request.configFault source mode
  match byteFin 2 source, faultModeOf mode with
  | some src, some m => (s.ack r).setSource src ((s.out.sources[src]).setMode m)
  | _, _ => s.refuse r .badField

/-- A fault source whose latch is cleared (R124): a source in FOLLOW mode is left as it is. -/
def FaultSource.clearLatch (f : FaultSource) : FaultSource :=
  match f.mode with
  | .latch => { f with latch := false }
  | .follow => f

/-- CLEAR_FAULT (R124). -/
def State.takeClearFault (s : State) (source : Byte) : State :=
  let r := Request.clearFault source
  match byteFin 2 source with
  | none => s.refuse r .badField
  | some src =>
    if (s.out.sources[src]).input then s.refuse r .faultActive
    else (s.ack r).setSource src (s.out.sources[src]).clearLatch

/-! ### Lines, triggers and matchers (R131, R142 to R144, R151, R152, R162) -/

/-- Set a group (R131). -/
def State.setGroup (s : State) (g : Fin 3) (v : Group) : State :=
  { s with trig := { s.trig with groups := s.trig.groups.set g v } }

/-- The lines of a group, lowest first. -/
def groupLines (g : Fin 3) : List Line := allLines.filter fun l => lineGroup l == g

/-- A group's new values: turning its enable on tests the LEVEL entries of its lines, lowest line first
(R131, R135), and the examination comes last (R155; log 29). -/
def State.configureGroup (s : State) (g : Fin 3) (v : Group) : State :=
  let s1 := s.setGroup g v
  State.examine
    (if v.enable && !(s.trig.groups[g]).enable then (groupLines g).foldl State.testLevel s1 else s1)

/-- CONFIG_GROUP (R131). -/
def State.takeConfigGroup (s : State) (group : Byte) (entry : GroupEntry) : State :=
  let r := Request.configGroup group entry
  match byteFin 3 group, GroupEntry.config entry with
  | some g, some v => (s.ack r).configureGroup g v
  | _, _ => s.refuse r .badField

/-- An entry with a new configuration: its marks are kept, resting is cleared, and an EDGE entry's
held-by set is emptied (R143). -/
def Trigger.configure (t : Trigger) (cfg : TriggerConfig) : Trigger :=
  { t with config := cfg, resting := false,
           heldBy := match cfg.sense with | .edge => 0 | .level => t.heldBy }

/-- An entry's new configuration: a LEVEL entry is tested, and the examination comes last (R143, R155;
log 29). An EDGE entry's level condition never holds. -/
def State.configureTrigger (s : State) (l : Line) (cfg : TriggerConfig) : State :=
  ((s.modTrigger l fun t => t.configure cfg).testLevel l).examine

/-- CONFIG_TRIGGER (R142, R143). -/
def State.takeConfigTrigger (s : State) (line : Byte) (entry : TriggerEntry) : State :=
  let r := Request.configTrigger line entry
  match byteFin 24 line, TriggerEntry.config entry with
  | some l, some cfg => (s.ack r).configureTrigger l cfg
  | _, _ => s.refuse r .badField

/-- QUERY_TRIGGER (R144): the two marks are cleared once the reply's content is fixed. -/
def State.takeQueryTrigger (s : State) (line : Byte) : State :=
  match byteFin 24 line with
  | none => s.refuse (.queryTrigger line) .badField
  | some l =>
    (s.reply (.triggerInfo l (s.trigger l) (s.trig.lines[l]).high (s.lineActive l)
      (s.groupEnabled l) (s.isQueued (.line l)))).modTrigger l
        fun t => { t with coalesced := false, missed := false }

/-- CONFIG_MATCHER (R151, R152), with the examination it brings (R155). -/
def State.takeConfigMatcher (s : State) (matcher : Byte) (entry : MatcherEntry) : State :=
  let r := Request.configMatcher matcher entry
  match byteFin 2 matcher, MatcherEntry.config entry with
  | some m, some cfg =>
    ((s.ack r).modMatcher m fun t =>
      { t with config := cfg, progress := 0, gapRemaining := 0 }).examine
  | _, _ => s.refuse r .badField

/-- QUERY_QUEUE (R162): the matchers' marks are cleared once the reply's content is fixed. -/
def State.takeQueryQueue (s : State) : State :=
  let clear : Matcher → Matcher := fun t => { t with coalesced := false, missed := false }
  ((s.reply (.queueInfo s.trig.queue s.trig.matchers)).modMatcher 0 clear).modMatcher 1 clear

/-! ### Clock and link (R167, R170, R193, R194) -/

/-- SET_TICK (R167). -/
def State.takeSetTick (s : State) (code : Byte) : State :=
  let r := Request.setTick code
  match byteFin 4 code with
  | none => s.refuse r .badField
  | some k => (s.ack r).modClk fun c => { c with tickCode := k }

/-- RESET_PART (R170): the reset falls when its ACK has been sent. -/
def State.takeResetPart (s : State) : State :=
  (s.ack .resetPart).modClk fun c => { c with resetPending := true }

/-- IDENTIFY (R193). -/
def State.takeIdentify (s : State) : State := s.reply (.identity s.link.rate)

/-- The kind of the link store operation in progress, or 0 (R194, section 11.4). -/
def linkOpKind : Option LinkOp → Byte
  | none => 0
  | some (.read _ _) => 0x01
  | some (.program _ _) => 0x02
  | some (.eraseFrame _) => 0x03
  | some .eraseAll => 0x04
  | some .reloadCurves => 0x12

/-- What STATUS reports (R194). -/
def State.statusInfo (s : State) : StatusInfo :=
  { cause := s.clk.cause, tickCode := s.clk.tickCode, stamp := s.clk.stamp,
    lockActive := s.store.lockActive, mask := s.store.mask,
    linkOpKind := linkOpKind s.store.linkOp,
    phases := Vector.ofFn fun p => (s.ctx p).phase,
    sources := s.out.sources, shutdown := s.out.inShutdown, records := s.trig.queue.length,
    notices := s.link.notices, replies := s.link.replies, buffered := s.link.buffered.isSome,
    dropped := s.link.dropped, overflow := s.link.overflow }

/-- STATUS (R194): the two link flags are cleared once the reply's content is fixed (R191). -/
def State.takeStatus (s : State) : State :=
  (s.reply (.status s.statusInfo)).modLink fun l => { l with dropped := false, overflow := false }

/-! ### Dispatch and service (R182) -/

/-- A request is handed to the block that owns it (R182, section 10.7). -/
def State.takeRequest (s : State) (r : Request) : State :=
  match r with
  | .storeRead a n => s.takeStoreRead a n
  | .storeProgram w d => s.takeStoreProgram w d
  | .storeEraseFrame f => s.takeEraseFrame f
  | .storeEraseAll => s.takeEraseAll
  | .setWriteEnable m k => s.takeWriteEnable m k
  | .go c => s.takeGoRequest (.go c) c none
  | .goWithPointer c p => s.takeGoRequest (.goWithPointer c p) c (some p)
  | .pause c => s.takePauseRequest c
  | .resume c => s.takeResumeRequest c
  | .stop c => s.takeStopRequest c
  | .release c f => s.takeReleaseRequest c f
  | .configContext c h f => s.takeConfigContext c h f
  | .queryContext c => s.takeQueryContext c
  | .postEvent e => s.takePostEvent e
  | .setCounter c v => s.takeSetCounter c v
  | .queryCounters => s.takeQueryCounters
  | .setLevel c l f p => s.takeSetLevel c l f p
  | .releaseLevel c f => s.takeReleaseLevel c f
  | .queryChannel c => s.takeQueryChannel c
  | .reloadCurves => s.takeReloadCurves
  | .configChannel c e => s.takeConfigChannel c e
  | .configFault f m => s.takeConfigFault f m
  | .clearFault f => s.takeClearFault f
  | .configGroup g e => s.takeConfigGroup g e
  | .configTrigger l e => s.takeConfigTrigger l e
  | .queryTrigger l => s.takeQueryTrigger l
  | .configMatcher m e => s.takeConfigMatcher m e
  | .queryQueue => s.takeQueryQueue
  | .setTick c => s.takeSetTick c
  | .resetPart => s.takeResetPart
  | .identify => s.takeIdentify
  | .status => s.takeStatus

/-- The service of a frame (R182): a refused frame is answered by the link, and in STARTING every
request is refused STARTING. -/
def State.serve (s : State) (f : InFrame) : State :=
  match f with
  | .refused why kind => s.reply (.refuse kind why)
  | .request r => if s.isRunning then s.takeRequest r else s.refuse r .starting

/-- A frame is brought into service (R181, R183). -/
def State.bringIntoService (s : State) (f : InFrame) : State :=
  (s.modLink fun l => { l with service := some f }).serve f

/-! ### Arrival at the inbound places (R181, R183, R184) -/

/-- A frame arrives (R181): dropped, served at once, or buffered. A frame that meets an occupied buffered
place is dropped also where the service place has just become empty (R183; log 13). While a RESET_PART is
pending, a frame that meets an empty buffered place stands in it, with 8 replies queued too: R170 and R184
are followed, not the first row of R181 (log 30). In a reset the link takes nothing (R169). -/
def State.frameArrives (s : State) (f : InFrame) : State :=
  if s.isInReset then s
  else if (Config.replySlots ≤ s.link.replies && !s.clk.resetPending) || s.link.buffered.isSome then
    s.modLink fun l => { l with dropped := true }
  else if s.link.service.isNone && !s.clk.resetPending then s.bringIntoService f
  else s.modLink fun l => { l with buffered := some f }

/-- The buffered frame that may move into service now (R183). -/
def State.movable (s : State) : Option InFrame :=
  if s.link.service.isNone && !s.clk.resetPending && s.link.replies < Config.replySlots
      && !s.isInReset then s.link.buffered
  else none

/-- The buffered frame moves into service (R183). -/
def State.moveBuffered (s : State) (f : InFrame) : State :=
  (s.modLink fun l => { l with buffered := none }).bringIntoService f

/-- Start-up ends at every block, and the link brings its buffered request into service (R174, R195). -/
def State.completeStartUp (s : State) (valid : Bool) : State :=
  let s1 := s.endStartUp valid
  match s1.movable with
  | some f => s1.moveBuffered f
  | none => s1

end Sys2Proof.Machine
end

