-- ==== Sys2Proof/Machine/Link.lean ====
section
/-! DEFINITION. The host link's wire side (chapter 10): the receiver, the gap timer, transmission, HOLD,
and the fall of a pending RESET_PART. -/

namespace Sys2Proof.Machine

/-! ### The receiver (R177 to R180) -/

/-- The receiver's state is set. -/
def State.setReceiver (s : State) (v : Receiver) : State :=
  s.modLink fun l => { l with receiver := v }

/-- A frame that is complete arrives with the outcome of its checks (R178). -/
def checkFrame (kind : Byte) (body : List Byte) (sum : Byte) : InFrame :=
  if sum ≠ 0 then .refused .checksum 0
  else
    match Request.decode kind body with
    | .request r => .request r
    | .badKind => .refused .badKind kind
    | .badLength => .refused .badLength kind

/-- A byte with a correct stop bit is taken in the present receiving state (R177, R178, R180). -/
def State.takeByte (s : State) (b : Byte) : State :=
  match s.link.receiver with
  | .hunt => if b = 0xC5 then s.setReceiver .len else s
  | .len =>
    if Config.lenMax < b.toNat then (s.setReceiver .hunt).frameArrives (.refused .badLength 0)
    else s.setReceiver (.kind b b)
  | .kind len sum =>
    if len = 0 then s.setReceiver (.check len b [] (sum + b))
    else s.setReceiver (.body len b [] len.toNat (sum + b))
  | .body len kind got left sum =>
    if left ≤ 1 then s.setReceiver (.check len kind (got ++ [b]) (sum + b))
    else s.setReceiver (.body len kind (got ++ [b]) (left - 1) (sum + b))
  | .check _ kind got sum =>
    (s.setReceiver .hunt).frameArrives (checkFrame kind got (sum + b))

/-- The receiver is inside a frame (R179). -/
def Receiver.inFrame : Receiver → Bool
  | .hunt => false
  | .len => true
  | .kind _ _ => true
  | .body _ _ _ _ _ => true
  | .check _ _ _ _ => true

/-- The frame being received is cut short: it is discarded, and arrives as TRUNCATED (R179). -/
def State.truncate (s : State) : State :=
  (s.setReceiver .hunt).frameArrives (.refused .truncated 0)

/-- A character arrives on RXD (R177, R179). In a reset the link takes no bytes (R169, R176). -/
def State.takeCharacter (s : State) (b : Byte) (stopBit : Bool) : State :=
  if s.isInReset then s
  else if stopBit then s.takeByte b
  else if s.link.receiver.inFrame then s.truncate
  else s

/-! ### Transmission (R170, R186, R188) -/

/-- The frame is the ACK of a RESET_PART (R170). -/
def OutFrame.acksReset (f : OutFrame) : Bool := f == .reply (.ack Request.resetPart.kind)

/-- The last byte of the frame being sent has left: the reset of a pending RESET_PART falls if it was its
ACK (R170); otherwise the slot is freed and the next boundary follows (R186). -/
def State.frameSent (s : State) (f : OutFrame) (rest : List OutFrame) : State :=
  if s.clk.resetPending && f.acksReset then s.partReset .request
  else s.modLink fun l => Link.begin_ { l with outbound := rest, sending := false }

/-- The HOLD input takes a level: low opens a waiting boundary (R188). -/
def State.holdInput (s : State) (high : Bool) : State :=
  s.modLink fun l => Link.begin_ { l with hold := high }

end Sys2Proof.Machine
end

