-- ==== Sys2Proof/Machine/Ticks.lean ====
section
/-! DEFINITION. The tick and what it does at each block (R48, R96, R149, R160, R165), and the conditions
under which the events of the part occur. -/

namespace Sys2Proof.Machine

/-! ### Ticks owed (R165; log 7) -/

/-- Change the ticks that the blocks have still to take. -/
def State.modOwed (s : State) (f : TicksOwed → TicksOwed) : State := { s with owed := f s.owed }

/-- The clock produces a tick: it is handed to PLAY, MIX and TRIG, the stamp is raised, and the next
interval has the tick code now set (R165, R166, R167). -/
def State.produceTick (s : State) : State :=
  (s.modClk fun c => { c with stamp := c.stamp + 1, intervalCode := c.tickCode }).modOwed
    fun o => { o with play := o.play + 1, mix := o.mix + 1, trig := o.trig + 1 }

/-! ### PLAY (R48) -/

/-- The contexts that have still to take the tick now arriving. -/
def State.dueContexts (s : State) : List Ctx := allCtx.filter fun p => !ctxIn p s.owed.taken

/-- Every context whose count does not end lowers it (R48). -/
def State.countContexts (s : State) : State :=
  let cs : Vector Context 4 :=
    Vector.ofFn fun p =>
      if ctxIn p s.owed.taken || (s.contexts[p]).lastTick then s.contexts[p]
      else (s.contexts[p]).countDown
  { s with contexts := cs }

/-- The rest of a tick at the playback engine: the contexts that have not taken it do so, those whose
counts end in any order (R48; log 7, log 9). -/
def State.tickPlay (s : State) : State :=
  let ending := s.dueContexts.filter fun p => (s.ctx p).lastTick
  let r := s.countContexts.anyOrder ending
  (r.1.foldl State.endCount r.2).modOwed fun o => { o with play := o.play - 1, taken := 0 }

/-- The tick taken at one context alone, ending its count (R49, R50, R77; log 7). -/
def State.tickOne (s : State) (p : Ctx) : State :=
  (s.endCount p).modOwed fun o => { o with taken := o.taken ||| ctxBit p }

/-- A tick stands to be taken at a context, and it ends the context's count. -/
def State.tickEnds (s : State) (p : Ctx) : Bool :=
  0 < s.owed.play && !ctxIn p s.owed.taken && (s.ctx p).lastTick

/-! ### MIX (R96) -/

/-- A tick at the mixer; of the contexts whose last claim goes, those named first are told first, the
others in any order (R95, R96; log 8, log 9). -/
def State.tickMix (s : State) (first : List Ctx) : State :=
  let s1 := s.advanceClaims
  let gone := claimsGone s.mix s1.mix
  let s2 := (gone.filter fun p => p ∈ first).foldl State.takeClaimsGone s1
  (s2.takeAllGone (gone.filter fun p => p ∉ first)).modOwed fun o => { o with mix := o.mix - 1 }

/-- The context of a claimant, if it is one. -/
def claimantContexts : Claimant → List Ctx
  | .ctx p => [p]
  | .link => []

/-- The next tick at the mixer ends the release fade of this claim (R96). -/
def State.releaseEnds (s : State) (ch : Chan) (who : Claimant) : Bool :=
  match (s.mixCh ch).claims.get who with
  | some c => c.releasing && c.elapsed + 1 == c.total && !s.mix.isHeld who
  | none => false

/-! ### TRIG (R149, R160) -/

/-- A tick at TRIG, taken (R149, R160). -/
def State.takeTrigTick (s : State) : State :=
  s.tickTrig.modOwed fun o => { o with trig := o.trig - 1 }

/-- The next tick at TRIG lapses this matcher's attempt (R149). -/
def Matcher.lapses (m : Matcher) : Bool := 0 < m.progress && m.gapRemaining == 1

/-- The next tick at TRIG expires this source's record (R160). -/
def State.expires (s : State) (src : Source) : Bool :=
  s.trig.queue.any fun r => r.source == src && r.expiry == some 1

/-! ### Samples (R127, R129) -/

/-- A sample of a line that completes no run (R127). -/
def LineFilter.sample (f : LineFilter) (high : Bool) : LineFilter :=
  if f.high = high then { f with run := 0 } else { f with run := f.run + 1 }

/-! ### Events that do not occur -/

/-- The answer to a command that names an event which the rules exclude in this state (log 5). -/
def cannotOccur (mnemonic : String) : Host.Outcome State Fault Refusal :=
  .refused (.cannotOccur mnemonic)

end Sys2Proof.Machine
end

