-- ==== Sys2Proof/Machine/BlockEvents.lean ====
section
/-! DEFINITION. The meanings of the messages between the blocks and of the events at the pins: posts, phase
reports, input lines, fault inputs and period starts. -/

namespace Sys2Proof.Machine

/-- A post that was handed to context p reaches it (R72; log 12). -/
def execPost (p : Ctx) (event : EventId) (s : State) : Host.Outcome State Fault Refusal :=
  if (p, event) ∈ s.posts then
    .next (State.takePost { s with posts := s.posts.erase (p, event) } p event)
  else cannotOccur "POST"

/-- TRIG takes the oldest phase report of context p (R155, R198; log 11). -/
def execPhaseReport (p : Ctx) (s : State) : Host.Outcome State Fault Refusal :=
  match s.reports.find? (fun r => r.p == p) with
  | some r => .next (State.takeReport { s with reports := s.reports.erase r } r)
  | none => cannotOccur "PHASE_REPORT"

/-- A change of a line is accepted: the sample that completes the run (R127, R128). -/
def execAcceptedChange (line : Line) (high : Bool) (s : State) : Host.Outcome State Fault Refusal :=
  if s.isRunning ∧ (s.trig.lines[line]).sampled ∧ s.acceptsChange line high then
    .next (s.acceptChange line high)
  else cannotOccur "ACCEPTED_CHANGE"

/-- The first sample of a line after start-up (R129). -/
def execFirstSample (line : Line) (high : Bool) (s : State) : Host.Outcome State Fault Refusal :=
  if s.isRunning ∧ (s.trig.lines[line]).sampled = false then .next (s.takeFirstSample line high)
  else cannotOccur "FIRST_SAMPLE"

/-- A sample of a line that completes no run (R127). -/
def execLineSample (line : Line) (high : Bool) (s : State) : Host.Outcome State Fault Refusal :=
  if s.isRunning ∧ (s.trig.lines[line]).sampled ∧ s.acceptsChange line high = false then
    .next (s.modLine line fun f => f.sample high)
  else cannotOccur "LINE_SAMPLE"

/-- A sample of a fault pin differs from the source's input level (R118, R119). -/
def execFaultInputChange (source : Fin 2) (active : Bool) (s : State) :
    Host.Outcome State Fault Refusal :=
  if s.isRunning ∧ (s.out.sources[source]).input ≠ active then
    .next (s.setSource source ((s.out.sources[source]).inputChange active))
  else cannotOccur "FAULT_INPUT_CHANGE"

/-- A channel's period start (R110, R115, R117, R122); a paired channel has none (R115). -/
def execPeriodStart (channel : Chan) (s : State) : Host.Outcome State Fault Refusal :=
  if s.isRunning ∧ (s.outCh channel).paired = false then .next (s.startPeriod channel)
  else cannotOccur "PERIOD_START"

end Sys2Proof.Machine
end

