-- ==== Sys2Proof/Machine/HostRequests.lean ====
section
/-! DEFINITION. The meanings of the host's requests as commands: the whole request frame arrives at the
inbound side (R181; log 4), where it is dropped, buffered, refused in STARTING, or served by its owning
block as that block's rule states. -/

namespace Sys2Proof.Machine

/-- STORE_READ arrives (R9). -/
def execStoreRead (address : Half) (length : Byte) (s : State) : Host.Outcome State Fault Refusal :=
  .next (s.frameArrives (.request (.storeRead address length)))

/-- STORE_PROGRAM arrives (R11). -/
def execStoreProgram (word : Half) (data : List Byte) (s : State) :
    Host.Outcome State Fault Refusal :=
  .next (s.frameArrives (.request (.storeProgram word data)))

/-- STORE_ERASE_FRAME arrives (R13). -/
def execStoreEraseFrame (frame : Byte) (s : State) : Host.Outcome State Fault Refusal :=
  .next (s.frameArrives (.request (.storeEraseFrame frame)))

/-- STORE_ERASE_ALL arrives (R14). -/
def execStoreEraseAll (s : State) : Host.Outcome State Fault Refusal :=
  .next (s.frameArrives (.request .storeEraseAll))

/-- SET_WRITE_ENABLE arrives (R5). -/
def execSetWriteEnable (mask key : Half) (s : State) : Host.Outcome State Fault Refusal :=
  .next (s.frameArrives (.request (.setWriteEnable mask key)))

/-- GO without a pointer arrives (R55). -/
def execGo (context : Byte) (s : State) : Host.Outcome State Fault Refusal :=
  .next (s.frameArrives (.request (.go context)))

/-- GO with a pointer arrives (R56). -/
def execGoWithPointer (context : Byte) (pointer : Half) (s : State) :
    Host.Outcome State Fault Refusal :=
  .next (s.frameArrives (.request (.goWithPointer context pointer)))

/-- PAUSE arrives (R57). -/
def execPause (context : Byte) (s : State) : Host.Outcome State Fault Refusal :=
  .next (s.frameArrives (.request (.pause context)))

/-- RESUME arrives (R59). -/
def execResume (context : Byte) (s : State) : Host.Outcome State Fault Refusal :=
  .next (s.frameArrives (.request (.resume context)))

/-- STOP arrives (R60). -/
def execStop (context : Byte) (s : State) : Host.Outcome State Fault Refusal :=
  .next (s.frameArrives (.request (.stop context)))

/-- RELEASE arrives (R61). -/
def execRelease (context : Byte) (fade : Half) (s : State) : Host.Outcome State Fault Refusal :=
  .next (s.frameArrives (.request (.release context fade)))

/-- CONFIG_CONTEXT arrives (R66). -/
def execConfigContext (context : Byte) (home : Half) (report : Byte) (s : State) :
    Host.Outcome State Fault Refusal :=
  .next (s.frameArrives (.request (.configContext context home report)))

/-- QUERY_CONTEXT arrives (R68). -/
def execQueryContext (context : Byte) (s : State) : Host.Outcome State Fault Refusal :=
  .next (s.frameArrives (.request (.queryContext context)))

/-- POST_EVENT arrives (R80). -/
def execPostEvent (event : Byte) (s : State) : Host.Outcome State Fault Refusal :=
  .next (s.frameArrives (.request (.postEvent event)))

/-- SET_COUNTER arrives (R85). -/
def execSetCounter (cell value : Byte) (s : State) : Host.Outcome State Fault Refusal :=
  .next (s.frameArrives (.request (.setCounter cell value)))

/-- QUERY_COUNTERS arrives (R86). -/
def execQueryCounters (s : State) : Host.Outcome State Fault Refusal :=
  .next (s.frameArrives (.request .queryCounters))

/-- SET_LEVEL arrives (R103). -/
def execSetLevel (channel level : Byte) (fade : Half) (priority : Byte) (s : State) :
    Host.Outcome State Fault Refusal :=
  .next (s.frameArrives (.request (.setLevel channel level fade priority)))

/-- RELEASE_LEVEL arrives (R104). -/
def execReleaseLevel (channel : Byte) (fade : Half) (s : State) :
    Host.Outcome State Fault Refusal :=
  .next (s.frameArrives (.request (.releaseLevel channel fade)))

/-- QUERY_CHANNEL arrives (R105). -/
def execQueryChannel (channel : Byte) (s : State) : Host.Outcome State Fault Refusal :=
  .next (s.frameArrives (.request (.queryChannel channel)))

/-- RELOAD_CURVES arrives (R102). -/
def execReloadCurves (s : State) : Host.Outcome State Fault Refusal :=
  .next (s.frameArrives (.request .reloadCurves))

/-- CONFIG_CHANNEL arrives (R106, R107, R114). -/
def execConfigChannel (channel : Byte) (entry : ChannelEntry) (s : State) :
    Host.Outcome State Fault Refusal :=
  .next (s.frameArrives (.request (.configChannel channel entry)))

/-- CONFIG_FAULT arrives (R125). -/
def execConfigFault (source mode : Byte) (s : State) : Host.Outcome State Fault Refusal :=
  .next (s.frameArrives (.request (.configFault source mode)))

/-- CLEAR_FAULT arrives (R124). -/
def execClearFault (source : Byte) (s : State) : Host.Outcome State Fault Refusal :=
  .next (s.frameArrives (.request (.clearFault source)))

/-- CONFIG_GROUP arrives (R131). -/
def execConfigGroup (group : Byte) (entry : GroupEntry) (s : State) :
    Host.Outcome State Fault Refusal :=
  .next (s.frameArrives (.request (.configGroup group entry)))

/-- CONFIG_TRIGGER arrives (R142, R143). -/
def execConfigTrigger (line : Byte) (entry : TriggerEntry) (s : State) :
    Host.Outcome State Fault Refusal :=
  .next (s.frameArrives (.request (.configTrigger line entry)))

/-- QUERY_TRIGGER arrives (R144). -/
def execQueryTrigger (line : Byte) (s : State) : Host.Outcome State Fault Refusal :=
  .next (s.frameArrives (.request (.queryTrigger line)))

/-- CONFIG_MATCHER arrives (R151, R152). -/
def execConfigMatcher (matcher : Byte) (entry : MatcherEntry) (s : State) :
    Host.Outcome State Fault Refusal :=
  .next (s.frameArrives (.request (.configMatcher matcher entry)))

/-- QUERY_QUEUE arrives (R162). -/
def execQueryQueue (s : State) : Host.Outcome State Fault Refusal :=
  .next (s.frameArrives (.request .queryQueue))

/-- SET_TICK arrives (R167). -/
def execSetTick (code : Byte) (s : State) : Host.Outcome State Fault Refusal :=
  .next (s.frameArrives (.request (.setTick code)))

/-- RESET_PART arrives (R170). -/
def execResetPart (s : State) : Host.Outcome State Fault Refusal :=
  .next (s.frameArrives (.request .resetPart))

/-- IDENTIFY arrives (R193). -/
def execIdentify (s : State) : Host.Outcome State Fault Refusal :=
  .next (s.frameArrives (.request .identify))

/-- STATUS arrives (R194). -/
def execStatus (s : State) : Host.Outcome State Fault Refusal :=
  .next (s.frameArrives (.request .status))

end Sys2Proof.Machine
end

