-- ==== Sys2Proof/Machine/LinkEvents.lean ====
section
/-! DEFINITION. The meanings of the events at the host link's pins and inbound places (chapter 10). -/

namespace Sys2Proof.Machine

/-- A character arrives on RXD, its stop bit correct or low (R177, R179). -/
def execByteArrival (byte : Byte) (stopBit : Bool) (s : State) : Host.Outcome State Fault Refusal :=
  .next (s.takeCharacter byte stopBit)

/-- The gap timer expires inside a frame (R179); it does not run in HUNT. -/
def execGapExpiry (s : State) : Host.Outcome State Fault Refusal :=
  if s.link.receiver.inFrame then .next s.truncate else cannotOccur "GAP_EXPIRY"

/-- The last byte of the frame being sent leaves (R170, R186). -/
def execFrameTransmitted (s : State) : Host.Outcome State Fault Refusal :=
  match s.link.sending, s.link.outbound with
  | true, f :: rest => .next (s.frameSent f rest)
  | _, _ => cannotOccur "FRAME_TRANSMITTED"

/-- The HOLD input takes a level (R188). -/
def execHoldChange (high : Bool) (s : State) : Host.Outcome State Fault Refusal :=
  .next (s.holdInput high)

/-- The buffered request moves into service (R183). -/
def execBufferedRequestMove (s : State) : Host.Outcome State Fault Refusal :=
  match s.movable with
  | some f => .next (s.moveBuffered f)
  | none => cannotOccur "BUFFERED_REQUEST_MOVE"

end Sys2Proof.Machine
end

