-- ==== Sys2Proof/Machine/ResetEvents.lean ====
section
/-! DEFINITION. The meanings of the resets and of the steps of start-up (sections 9.4 and 9.5). -/

namespace Sys2Proof.Machine

/-- The supply drops below its working level: a POWER reset falls and is held (R168, R169). -/
def execPowerReset (s : State) : Host.Outcome State Fault Refusal := .next (s.partReset .power)

/-- RESET_N goes low: a PIN reset falls and is held, or the held POWER reset stays (R168, R169). -/
def execPinReset (s : State) : Host.Outcome State Fault Refusal := .next (s.partReset s.clk.pinCause)

/-- No cause holds the reset any longer (R169, R171, R176). -/
def execResetEnd (baudHigh : Bool) (s : State) : Host.Outcome State Fault Refusal :=
  match s.clk.stage with
  | .inReset cause => .next (s.endReset cause baudHigh)
  | _ => cannotOccur "RESET_END"

/-- The start-up read of the header frame ends (R171, R172). -/
def execHeaderReadComplete (s : State) : Host.Outcome State Fault Refusal :=
  match s.clk.stage with
  | .readingHeader => .next s.readHeader
  | _ => cannotOccur "HEADER_READ_COMPLETE"

/-- The start-up curve load ends, and start-up with it (R173 to R175). -/
def execStartUpCurveLoadComplete (s : State) : Host.Outcome State Fault Refusal :=
  match s.clk.stage with
  | .loadingCurves valid => .next (s.completeStartUp valid)
  | _ => cannotOccur "START_UP_CURVE_LOAD_COMPLETE"

end Sys2Proof.Machine
end

