-- ==== Sys2Proof/Machine/StoreEvents.lean ====
section
/-! DEFINITION. The meanings of the completions at the store port (R10, R12 to R14, R33, R35, R36, R101).
Each occurs where the port serves such an operation; elsewhere it is an event that does not occur
(log 5). -/

namespace Sys2Proof.Machine

/-- A granted STORE_READ completes (R10). -/
def execStoreReadComplete (s : State) : Host.Outcome State Fault Refusal :=
  match s.store.port, s.store.linkOp with
  | some .link, some (.read address length) => .next (s.completeRead address length)
  | _, _ => cannotOccur "STORE_READ_COMPLETE"

/-- A granted STORE_PROGRAM completes (R12). -/
def execStoreProgramComplete (s : State) : Host.Outcome State Fault Refusal :=
  match s.store.port, s.store.linkOp with
  | some .link, some (.program word data) => .next (s.completeProgram word data)
  | _, _ => cannotOccur "STORE_PROGRAM_COMPLETE"

/-- A granted STORE_ERASE_FRAME completes (R13). -/
def execEraseFrameComplete (s : State) : Host.Outcome State Fault Refusal :=
  match s.store.port, s.store.linkOp with
  | some .link, some (.eraseFrame frame) => .next (s.completeEraseFrame frame)
  | _, _ => cannotOccur "ERASE_FRAME_COMPLETE"

/-- A granted STORE_ERASE_ALL completes (R14). -/
def execEraseAllComplete (s : State) : Host.Outcome State Fault Refusal :=
  match s.store.port, s.store.linkOp with
  | some .link, some .eraseAll => .next s.completeEraseAll
  | _, _ => cannotOccur "ERASE_ALL_COMPLETE"

/-- The curve load of a granted RELOAD_CURVES ends (R101, R102). -/
def execCurveLoadComplete (s : State) : Host.Outcome State Fault Refusal :=
  match s.store.port, s.store.linkOp with
  | some .link, some .reloadCurves => .next s.completeReload
  | _, _ => cannotOccur "CURVE_LOAD_COMPLETE"

/-- A LINK_STEP fetch read completes (R33, R34). -/
def execLinkStepReadComplete (s : State) : Host.Outcome State Fault Refusal :=
  match s.store.port with
  | some (.fetch p .linkStep word live) => .next (s.completeFetch p .linkStep word live)
  | _ => cannotOccur "LINK_STEP_READ_COMPLETE"

/-- A PROBE fetch read completes (R35). -/
def execProbeReadComplete (s : State) : Host.Outcome State Fault Refusal :=
  match s.store.port with
  | some (.fetch p .probe word live) => .next (s.completeFetch p .probe word live)
  | _ => cannotOccur "PROBE_READ_COMPLETE"

/-- A RECORD fetch read completes (R36, R37, R45). -/
def execRecordReadComplete (s : State) : Host.Outcome State Fault Refusal :=
  match s.store.port with
  | some (.fetch p (.record lead) word live) => .next (s.completeFetch p (.record lead) word live)
  | _ => cannotOccur "RECORD_READ_COMPLETE"

end Sys2Proof.Machine
end

