-- ==== Sys2Proof/Machine/TickEvents.lean ====
section
/-! DEFINITION. The meanings of the show clock's tick, of its arrivals, and of the ends of counts (R48,
R96, R149, R160, R165; log 7, log 8). A count ends at a tick that has been produced and not yet taken;
elsewhere the event does not occur (log 5). -/

namespace Sys2Proof.Machine

/-- The show clock produces a tick (R165); it produces none but in RUNNING (R164). -/
def execTick (s : State) : Host.Outcome State Fault Refusal :=
  if s.isRunning then .next s.produceTick else cannotOccur "TICK"

/-- A tick arrives at the playback engine (R48). -/
def execTickArrivalPlay (s : State) : Host.Outcome State Fault Refusal :=
  if 0 < s.owed.play then .next s.tickPlay else cannotOccur "TICK_ARRIVAL_PLAY"

/-- A tick arrives at the mixer (R96). -/
def execTickArrivalMix (s : State) : Host.Outcome State Fault Refusal :=
  if 0 < s.owed.mix then .next (s.tickMix []) else cannotOccur "TICK_ARRIVAL_MIX"

/-- A tick arrives at TRIG (R149, R160). -/
def execTickArrivalTrig (s : State) : Host.Outcome State Fault Refusal :=
  if 0 < s.owed.trig then .next s.takeTrigTick else cannotOccur "TICK_ARRIVAL_TRIG"

/-- The tick at context p with which its fade remaining reaches 0 (R48, R49). -/
def execFadeComplete (p : Ctx) (s : State) : Host.Outcome State Fault Refusal :=
  if (s.ctx p).phase = .fade ∧ s.tickEnds p then .next (s.tickOne p)
  else cannotOccur "FADE_COMPLETE"

/-- The tick at context p with which its hold remaining reaches 0 (R48, R50). -/
def execHoldExpiry (p : Ctx) (s : State) : Host.Outcome State Fault Refusal :=
  if (s.ctx p).phase = .hold ∧ s.tickEnds p then .next (s.tickOne p)
  else cannotOccur "HOLD_EXPIRY"

/-- The tick at context p with which its timeout remaining reaches 0 (R53, R77). -/
def execWaitTimeout (p : Ctx) (s : State) : Host.Outcome State Fault Refusal :=
  if (s.ctx p).phase = .wait ∧ s.tickEnds p then .next (s.tickOne p)
  else cannotOccur "WAIT_TIMEOUT"

/-- The tick at the mixer with which a claim's release fade ends (R96); its context is told first. -/
def execReleaseFadeEnd (channel : Chan) (claimant : Claimant) (s : State) :
    Host.Outcome State Fault Refusal :=
  if 0 < s.owed.mix ∧ s.releaseEnds channel claimant then .next (s.tickMix (claimantContexts claimant))
  else cannotOccur "RELEASE_FADE_END"

/-- The tick at TRIG with which a matcher's attempt lapses (R149). -/
def execGapLapse (matcher : Fin 2) (s : State) : Host.Outcome State Fault Refusal :=
  if 0 < s.owed.trig ∧ (s.trig.matchers[matcher]).lapses then .next s.takeTrigTick
  else cannotOccur "GAP_LAPSE"

/-- The tick at TRIG with which a source's record expires (R160). -/
def execRecordExpiry (source : Source) (s : State) : Host.Outcome State Fault Refusal :=
  if 0 < s.owed.trig ∧ s.expires source then .next s.takeTrigTick
  else cannotOccur "RECORD_EXPIRY"

end Sys2Proof.Machine
end

