-- ==== Sys2Proof/Machine/Dispatch.lean ====
section
/-! DEFINITION. The meaning of each command: one arm per row of the table of operations and events. -/

namespace Sys2Proof.Machine

/-- A command's effect on everything but the queue of waiting commands. -/
def exec (i : Instr) (s : State) : Host.Outcome State Fault Refusal :=
  match i with
  | .storeRead address length => Sys2Proof.Machine.execStoreRead address length s
  | .storeProgram word data => Sys2Proof.Machine.execStoreProgram word data s
  | .storeEraseFrame frame => Sys2Proof.Machine.execStoreEraseFrame frame s
  | .storeEraseAll => Sys2Proof.Machine.execStoreEraseAll s
  | .setWriteEnable mask key => Sys2Proof.Machine.execSetWriteEnable mask key s
  | .go context => Sys2Proof.Machine.execGo context s
  | .goWithPointer context pointer => Sys2Proof.Machine.execGoWithPointer context pointer s
  | .pause context => Sys2Proof.Machine.execPause context s
  | .resume context => Sys2Proof.Machine.execResume context s
  | .stop context => Sys2Proof.Machine.execStop context s
  | .release context fade => Sys2Proof.Machine.execRelease context fade s
  | .configContext context home report => Sys2Proof.Machine.execConfigContext context home report s
  | .queryContext context => Sys2Proof.Machine.execQueryContext context s
  | .postEvent event => Sys2Proof.Machine.execPostEvent event s
  | .setCounter cell value => Sys2Proof.Machine.execSetCounter cell value s
  | .queryCounters => Sys2Proof.Machine.execQueryCounters s
  | .setLevel channel level fade priority => Sys2Proof.Machine.execSetLevel channel level fade priority s
  | .releaseLevel channel fade => Sys2Proof.Machine.execReleaseLevel channel fade s
  | .queryChannel channel => Sys2Proof.Machine.execQueryChannel channel s
  | .reloadCurves => Sys2Proof.Machine.execReloadCurves s
  | .configChannel channel entry => Sys2Proof.Machine.execConfigChannel channel entry s
  | .configFault source mode => Sys2Proof.Machine.execConfigFault source mode s
  | .clearFault source => Sys2Proof.Machine.execClearFault source s
  | .configGroup group entry => Sys2Proof.Machine.execConfigGroup group entry s
  | .configTrigger line entry => Sys2Proof.Machine.execConfigTrigger line entry s
  | .queryTrigger line => Sys2Proof.Machine.execQueryTrigger line s
  | .configMatcher matcher entry => Sys2Proof.Machine.execConfigMatcher matcher entry s
  | .queryQueue => Sys2Proof.Machine.execQueryQueue s
  | .setTick code => Sys2Proof.Machine.execSetTick code s
  | .resetPart => Sys2Proof.Machine.execResetPart s
  | .identify => Sys2Proof.Machine.execIdentify s
  | .status => Sys2Proof.Machine.execStatus s
  | .storeReadComplete => Sys2Proof.Machine.execStoreReadComplete s
  | .storeProgramComplete => Sys2Proof.Machine.execStoreProgramComplete s
  | .eraseFrameComplete => Sys2Proof.Machine.execEraseFrameComplete s
  | .eraseAllComplete => Sys2Proof.Machine.execEraseAllComplete s
  | .curveLoadComplete => Sys2Proof.Machine.execCurveLoadComplete s
  | .linkStepReadComplete => Sys2Proof.Machine.execLinkStepReadComplete s
  | .probeReadComplete => Sys2Proof.Machine.execProbeReadComplete s
  | .recordReadComplete => Sys2Proof.Machine.execRecordReadComplete s
  | .tick => Sys2Proof.Machine.execTick s
  | .tickArrivalPlay => Sys2Proof.Machine.execTickArrivalPlay s
  | .tickArrivalMix => Sys2Proof.Machine.execTickArrivalMix s
  | .tickArrivalTrig => Sys2Proof.Machine.execTickArrivalTrig s
  | .fadeComplete p => Sys2Proof.Machine.execFadeComplete p s
  | .holdExpiry p => Sys2Proof.Machine.execHoldExpiry p s
  | .waitTimeout p => Sys2Proof.Machine.execWaitTimeout p s
  | .releaseFadeEnd channel claimant => Sys2Proof.Machine.execReleaseFadeEnd channel claimant s
  | .gapLapse matcher => Sys2Proof.Machine.execGapLapse matcher s
  | .recordExpiry source => Sys2Proof.Machine.execRecordExpiry source s
  | .post p event => Sys2Proof.Machine.execPost p event s
  | .phaseReport p => Sys2Proof.Machine.execPhaseReport p s
  | .acceptedChange line high => Sys2Proof.Machine.execAcceptedChange line high s
  | .firstSample line high => Sys2Proof.Machine.execFirstSample line high s
  | .faultInputChange source active => Sys2Proof.Machine.execFaultInputChange source active s
  | .periodStart channel => Sys2Proof.Machine.execPeriodStart channel s
  | .byteArrival byte stopBit => Sys2Proof.Machine.execByteArrival byte stopBit s
  | .gapExpiry => Sys2Proof.Machine.execGapExpiry s
  | .frameTransmitted => Sys2Proof.Machine.execFrameTransmitted s
  | .holdChange high => Sys2Proof.Machine.execHoldChange high s
  | .bufferedRequestMove => Sys2Proof.Machine.execBufferedRequestMove s
  | .powerReset => Sys2Proof.Machine.execPowerReset s
  | .pinReset => Sys2Proof.Machine.execPinReset s
  | .resetEnd baudHigh => Sys2Proof.Machine.execResetEnd baudHigh s
  | .headerReadComplete => Sys2Proof.Machine.execHeaderReadComplete s
  | .startUpCurveLoadComplete => Sys2Proof.Machine.execStartUpCurveLoadComplete s
  | .lineSample line high => Sys2Proof.Machine.execLineSample line high s

end Sys2Proof.Machine
end

