-- ==== Sys2Proof/Machine/Layout.lean ====
section
/-! DEFINITION. The bytes of the frames that the part sends: the codes and bodies of replies and notices
(sections 11.1, 11.2.1, 11.4, 11.5). A reply holds what it reports as it stood when its content was
fixed; this file lays it out. -/

namespace Sys2Proof.Machine

/-! ### Fields (R196) -/

/-- A number in one byte. -/
def byteOf (n : Nat) : Byte := BitVec.ofNat 8 n

/-- A number in two bytes, least significant first. -/
def halfBytes (n : Nat) : List Byte := [byteOf n, byteOf (n / 256)]

/-- A two-byte field. -/
def fieldBytes (h : Half) : List Byte := [lowByte h, highByte h]

/-- A four-byte field, least significant byte first. -/
def wordBytes (w : Word) : List Byte :=
  [w.extractLsb' 0 8, w.extractLsb' 8 8, w.extractLsb' 16 8, w.extractLsb' 24 8]

/-- A yes/no field. -/
def flagByte (b : Bool) : Byte := if b then 1 else 0

/-- Flags in one byte, bit 0 first. -/
def flagsByte : List Bool → Byte
  | [] => 0
  | b :: bs => flagByte b ||| (flagsByte bs <<< 1)

/-- A context set. -/
def setByte (s : CtxSet) : Byte := s.setWidth 8

/-- A two-byte field that may be absent. -/
def optHalf : Option Nat → List Byte
  | some n => halfBytes n
  | none => [0xFF, 0xFF]

/-! ### Codes (section 11.2.1) -/

/-- Refusal reasons. -/
def Reason.code : Reason → Byte
  | .checksum => 1
  | .truncated => 2
  | .badKind => 3
  | .badLength => 4
  | .badField => 5
  | .starting => 6
  | .busy => 7
  | .protected_ => 8
  | .locked => 9
  | .key => 10
  | .state => 11
  | .faulted => 12
  | .slaved => 13
  | .noCue => 14
  | .faultActive => 15

/-- Phases. -/
def Phase.code : Phase → Byte
  | .idle => 0
  | .fetch => 1
  | .fade => 2
  | .hold => 3
  | .wait => 4
  | .paused => 5
  | .releasing => 6
  | .faulted => 7

/-- Context fault reasons. -/
def FaultReason.code : FaultReason → Byte
  | .blankCue => 1
  | .badRecord => 2
  | .badPointer => 3
  | .linkDepth => 4

/-- Ways into IDLE. -/
def Way.code : Way → Byte
  | .ended => 0
  | .stopped => 1
  | .released => 2

/-- Actions. -/
def Action.code : Action → Byte
  | .go => 0
  | .release => 1
  | .stop => 2
  | .event => 3

/-- Claimants. -/
def claimantCode : Claimant → Byte
  | .ctx p => byteOf p.val
  | .link => 4

/-- Reset causes. -/
def ResetCause.code : ResetCause → Byte
  | .power => 0
  | .pin => 1
  | .request => 2

/-- Arbitration modes. -/
def Arbitration.code : Arbitration → Byte
  | .htp => 0
  | .priority => 1

/-- Store operations. -/
def DoneOp.code : DoneOp → Byte
  | .program => 0
  | .eraseFrame => 1
  | .eraseAll => 2

/-- Matcher outcomes. -/
def FiringOutcome.code : FiringOutcome → Byte
  | .posted => 0
  | .appended => 1
  | .coalesced => 2
  | .missed => 3

/-- Link rates. -/
def LinkRate.code : LinkRate → Byte
  | .slow => 0
  | .fast => 1

/-! ### Replies (section 11.4) -/

/-- KIND of a reply (section 11.2.1). -/
def Reply.kind : Reply → Byte
  | .ack _ => 0x40
  | .refuse _ _ => 0x41
  | .identity _ => 0x42
  | .status _ => 0x43
  | .storeData _ _ => 0x44
  | .contextInfo _ _ => 0x45
  | .channelInfo _ _ _ => 0x46
  | .triggerInfo _ _ _ _ _ _ => 0x47
  | .counterInfo _ => 0x48
  | .queueInfo _ _ => 0x49

/-- A fault source's byte: mode, latch flag, input active, asserted. -/
def FaultSource.byte (f : FaultSource) : Byte :=
  flagsByte [f.mode == .follow, f.latch, f.input, f.asserted]

/-- IDENTITY (R193). -/
def identityBody (rate : LinkRate) : List Byte :=
  [0xC5, 0x24] ++ halfBytes 2416 ++ [1] ++ wordBytes 65536 ++ [4, 16, 24, rate.code]

/-- STATUS (R194). -/
def StatusInfo.body (i : StatusInfo) : List Byte :=
  [i.cause.code, 1, byteOf i.tickCode.val] ++ wordBytes i.stamp ++ [flagByte i.lockActive]
    ++ fieldBytes i.mask ++ [i.linkOpKind] ++ i.phases.toList.map Phase.code
    ++ i.sources.toList.map FaultSource.byte ++ fieldBytes i.shutdown
    ++ [byteOf i.records, byteOf i.notices, byteOf i.replies, flagByte i.buffered,
        flagsByte [i.dropped, i.overflow]]

/-- The wait condition's four bytes: condition, event id, timeout remaining (log 17). -/
def waitBytes : Option WaitCondition → List Byte
  | none => [0, 0xFF, 0xFF, 0xFF]
  | some .go => [1, 0xFF, 0xFF, 0xFF]
  | some (.event e t _) => [2, byteOf e.val] ++ halfBytes t

/-- The fault reason and fault word. -/
def faultBytes : Option (FaultReason × Nat) → List Byte
  | none => [0, 0xFF, 0xFF]
  | some (r, w) => r.code :: halfBytes w

/-- The resolution position and link-step count. -/
def resolutionBytes : Option Resolution → List Byte
  | none => [0xFF, 0xFF, 0xFF]
  | some r => halfBytes r.position ++ [byteOf r.steps]

/-- The saved phase, or 0xFF. -/
def savedPhaseByte : Option Phase → Byte
  | none => 0xFF
  | some ph => ph.code

/-- CONTEXT_INFO (R68). -/
def contextBody (p : Ctx) (c : Context) : List Byte :=
  [byteOf p.val, c.phase.code, savedPhaseByte c.savedPhase] ++ optHalf c.current
    ++ halfBytes c.fadeRemaining ++ halfBytes c.holdRemaining ++ waitBytes c.waitCondition
    ++ wordBytes c.arrivals ++ fieldBytes c.home ++ [flagsByte [c.report, c.pausePending]]
    ++ faultBytes c.fault ++ resolutionBytes c.resolution

/-- The selected claimant, or 0xFF: none under HTP (R105). -/
def selectedByte (c : MixChannel) : Byte :=
  match c.arbitration with
  | .htp => 0xFF
  | .priority =>
    match selectClaim c.claims.list with
    | some (who, _) => claimantCode who
    | none => 0xFF

/-- Whether a claimant is in a held set. -/
def heldIn (held : CtxSet) : Claimant → Bool
  | .ctx p => ctxIn p held
  | .link => false

/-- One claim of CHANNEL_INFO. -/
def claimBytes (held : CtxSet) (e : Claimant × Claim) : List Byte :=
  [claimantCode e.1, e.2.present, e.2.start, e.2.target] ++ halfBytes e.2.total
    ++ halfBytes e.2.elapsed ++ [byteOf e.2.priority.val] ++ halfBytes e.2.stamp
    ++ [flagsByte [e.2.releasing, heldIn held e.1]]

/-- CHANNEL_INFO (R105). -/
def channelBody (ch : Chan) (c : MixChannel) (held : CtxSet) : List Byte :=
  [byteOf ch.val, c.arbitration.code, byteOf c.curve.val, flagByte c.secondary, c.level]
    ++ fieldBytes c.dutyLast ++ [selectedByte c] ++ halfBytes c.stampCounter
    ++ [byteOf c.claims.list.length] ++ (c.claims.list.map (claimBytes held)).flatten

/-- A pointer field that may be absent (log 17). -/
def optField : Option Half → List Byte
  | some f => fieldBytes f
  | none => [0xFF, 0xFF]

/-- A trigger entry's ten bytes (section 11.7.3). -/
def TriggerConfig.bytes (c : TriggerConfig) : List Byte :=
  [flagsByte [c.enabled, c.activeLow, c.sense == .level, c.firing.mode == .firstIdle,
     c.firing.pointer.isSome],
   c.firing.action.code, setByte c.firing.targets, 0] ++ optField c.firing.pointer
    ++ fieldBytes c.firing.fade ++ fieldBytes c.firing.expiry

/-- TRIGGER_INFO (R144). -/
def triggerBody (l : Line) (t : Trigger) (high active groupEnable queued : Bool) : List Byte :=
  byteOf l.val :: t.config.bytes
    ++ [flagByte high, flagByte active, flagByte groupEnable,
        flagsByte [t.coalesced, t.missed, t.resting, queued], setByte t.heldBy]

/-- The pointer field, the fade and the expiry of a record; an absent one reads 0xFFFF (log 17). -/
def Delivery.pointerBytes : Delivery → List Byte
  | .go p => optField p
  | .release _ => [0xFF, 0xFF]
  | .stop => [0xFF, 0xFF]

/-- Whether a delivery carries a pointer field. -/
def Delivery.hasPointer : Delivery → Bool
  | .go p => p.isSome
  | .release _ => false
  | .stop => false

/-- The fade of a record. -/
def Delivery.fadeBytes : Delivery → List Byte
  | .go _ => [0xFF, 0xFF]
  | .release n => halfBytes n
  | .stop => [0xFF, 0xFF]

/-- One record of QUEUE_INFO. -/
def DeliveryRecord.bytes (r : DeliveryRecord) : List Byte :=
  [byteOf (sourceNumber r.source), r.delivery.action.code, flagByte (r.mode == .firstIdle),
   setByte r.remaining, flagsByte [r.delivery.hasPointer, r.expiry.isSome, r.taken]]
    ++ r.delivery.pointerBytes ++ r.delivery.fadeBytes ++ optHalf r.expiry

/-- One matcher of QUEUE_INFO. -/
def Matcher.bytes (m : Matcher) : List Byte :=
  [flagByte m.config.enabled, byteOf m.progress] ++ halfBytes m.gapRemaining
    ++ [flagsByte [m.coalesced, m.missed]]

/-- QUEUE_INFO (R162). -/
def queueBody (q : List DeliveryRecord) (ms : Vector Matcher 2) : List Byte :=
  byteOf q.length :: (q.map DeliveryRecord.bytes).flatten ++ (ms.toList.map Matcher.bytes).flatten

/-- The body of a reply (section 11.4). -/
def Reply.body : Reply → List Byte
  | .ack kind => [kind]
  | .refuse kind why => [kind, why.code]
  | .identity rate => identityBody rate
  | .status i => i.body
  | .storeData a bytes => fieldBytes a ++ [byteOf bytes.length] ++ bytes
  | .contextInfo p c => contextBody p c
  | .channelInfo ch c held => channelBody ch c held
  | .triggerInfo l t h a g q => triggerBody l t h a g q
  | .counterInfo cells => cells.toList
  | .queueInfo q ms => queueBody q ms

/-! ### Notices (section 11.5) -/

/-- KIND of a notice (section 11.2.1). -/
def Notice.kind : Notice → Byte
  | .started _ _ _ => 0x60
  | .storeDone _ _ _ => 0x61
  | .cueStarted _ _ _ => 0x62
  | .contextIdle _ _ _ => 0x63
  | .contextFault _ _ _ _ => 0x64
  | .input _ _ => 0x65
  | .triggerMissed _ _ => 0x66
  | .triggerExpired _ _ _ => 0x67
  | .triggerRefused _ _ _ _ => 0x68
  | .matched _ _ _ => 0x69
  | .fault _ _ _ => 0x6A

/-- The result and first differing address of STORE_DONE (R15). -/
def mismatchBytes (subject : Nat) : Option Nat → List Byte
  | none => 0 :: halfBytes subject ++ [0, 0]
  | some a => 1 :: halfBytes subject ++ halfBytes a

/-- The fields of a notice behind its tick stamp (section 11.5). -/
def Notice.fields : Notice → List Byte
  | .started cause valid lock => [cause.code, flagByte valid, flagByte lock]
  | .storeDone op subject mismatch => op.code :: mismatchBytes subject mismatch
  | .cueStarted p word paused => [byteOf p.val] ++ halfBytes word ++ [flagByte paused]
  | .contextIdle p way last => [byteOf p.val, way.code] ++ optHalf last
  | .contextFault p reason word current =>
    [byteOf p.val, reason.code] ++ halfBytes word ++ optHalf current
  | .input l high => [byteOf l.val, flagByte high]
  | .triggerMissed src a => [byteOf (sourceNumber src), a.code]
  | .triggerExpired src a remaining => [byteOf (sourceNumber src), a.code, setByte remaining]
  | .triggerRefused src p a why => [byteOf (sourceNumber src), byteOf p.val, a.code, why.code]
  | .matched m a o => [byteOf m.val, a.code, o.code]
  | .fault src asserted chans => [byteOf src.val, flagByte asserted] ++ fieldBytes chans

/-- The body of a notice with its tick stamp (section 11.5). -/
def Notice.body (stamp : Word) (n : Notice) : List Byte := wordBytes stamp ++ n.fields

/-- The bytes of a frame of the outbound queue (sections 11.2, 11.4, 11.5). -/
def OutFrame.bytes : OutFrame → List Byte
  | .reply r => frameBytes r.kind r.body
  | .notice stamp n => frameBytes n.kind (n.body stamp)

end Sys2Proof.Machine
end

