-- ==== Sys2Proof/Safety.lean ====
section
/-! DEFINITION. What a claim about the part may take for granted and what a sound state of it is: the
condition under which an arriving request is served at once, and the invariants that every step keeps. -/

namespace Sys2Proof.Machine

/-- An arriving request is served at once by its owning block (R181, R182): the part runs, both inbound
places are empty, no RESET_PART is pending and a reply slot is free. -/
abbrev State.accepts (s : State) : Prop :=
  s.isRunning = true ∧ s.link.service = none ∧ s.link.buffered = none ∧ s.clk.resetPending = false
    ∧ s.link.replies < Config.replySlots


/-- A link store operation that names only words of the array (R11). -/
abbrev LinkOp.inArray (op : LinkOp) : Prop :=
  match op with
  | .program word data => 4 * word + data.length ≤ Config.storeBytes
  | _ => True

/-- The array keeps its canonical form, and a program in progress lies within it (R1, R11). -/
abbrev State.storeSound (s : State) : Prop :=
  s.store.cells.wf = true ∧ ∀ op ∈ s.store.linkOp, op.inArray

/-- The grant order is a list of the five claimants (R17). -/
abbrev State.orderSound (s : State) : Prop := s.store.order.Perm resetOrder

/-- The arbiter has granted whenever it could: the grant order is sound, and while the port is free no
claimant waits (R16, R17). -/
abbrev State.portSound (s : State) : Prop :=
  s.orderSound ∧ (s.store.port = none → ∀ c : Claimant, s.waitsAtPort c = false)

/-- The pending trigger queue never holds more than 16 records, and never two records with the same
source (R153). -/
abbrev State.queueSound (s : State) : Prop :=
  s.trig.queue.length ≤ Config.queuePlaces ∧ (s.trig.queue.map DeliveryRecord.source).Nodup

/-- A STORE_READ or RELOAD_CURVES in progress holds the link's request service (R9, R102). -/
abbrev State.serviceHeld (s : State) : Prop :=
  match s.store.linkOp with
  | some (.read _ _) => s.link.service.isSome = true
  | some .reloadCurves => s.link.service.isSome = true
  | _ => True

/-- The outbound queue never holds more than 24 notices or more than 8 replies (R185); a request in
service has a reply slot of its own (R183). -/
abbrev State.outboundSound (s : State) : Prop :=
  s.link.notices ≤ Config.noticeSlots
    ∧ s.link.replies + (if s.link.service.isSome then 1 else 0) ≤ Config.replySlots
    ∧ s.serviceHeld

/-- The claim set of a secondary is empty and its effective level stands at 0 (R88, R107). -/
abbrev State.secondariesSound (s : State) : Prop :=
  ∀ ch : Chan, (s.mixCh ch).secondary = true →
    (s.mixCh ch).claims = .empty ∧ (s.mixCh ch).level = 0

/-- A channel's modes: no odd channel is PAIR (R109, R114). -/
abbrev State.oddModesSound (s : State) : Prop :=
  ∀ ch : Chan, isOdd ch = true →
    (s.outCh ch).buffered.mode ≠ .pair ∧ (s.outCh ch).active.mode ≠ .pair
      ∧ (s.outCh ch).startConfig.mode ≠ .pair

/-- An odd channel is paired exactly while its even partner's active mode is PAIR, and an even channel
never is (R115, R117). -/
abbrev State.pairsSound (s : State) : Prop :=
  s.oddModesSound ∧ ∀ ch : Chan,
    (s.outCh ch).paired = (isOdd ch && (s.outCh (evenPartner ch)).active.mode == .pair)

/-- In a reset and in STARTING nothing moves: the contexts are IDLE, the port is free, no tick, post,
report, record, notice or link store operation stands, no line has been sampled, no claim is made or held,
the curve RAM is linear and every level and duty stands at 0 (R20, R87, R108, R129, R163, R164, R171, R195).
-/
abbrev State.quietBeforeRunning (s : State) : Prop :=
  s.isRunning = false →
    (∀ p : Ctx, (s.ctx p).activity = .idle) ∧ s.store.port = none ∧ s.store.linkOp = none
      ∧ s.owed = { play := 0, mix := 0, trig := 0, taken := 0 } ∧ s.posts = [] ∧ s.reports = []
      ∧ s.trig.queue = [] ∧ (∀ l : Line, (s.trig.lines[l]).sampled = false)
      ∧ s.link.notices = 0 ∧ s.clk.stamp = 0 ∧ s.clk.resetPending = false
      ∧ s.mix.held = 0 ∧ (∀ k : Fin 3, s.mix.curves[k] = none)
      ∧ ∀ ch : Chan, (s.mixCh ch).claims = .empty ∧ (s.mixCh ch).level = 0
          ∧ (s.mixCh ch).dutyLast = 0 ∧ (s.outCh ch).buffered.duty = 0

/-- Every effective level is the one its claim set and arbitration mode give, and every duty the one its
level and curve give; the Output Stage has each duty handed, and a secondary has no claim and level 0 (R88,
R97, R100, R107, R113). -/
abbrev State.levelsSound (s : State) : Prop :=
  s.secondariesSound ∧ ∀ ch : Chan,
    (s.outCh ch).buffered.duty = (s.mixCh ch).dutyLast
      ∧ ((s.mixCh ch).secondary = false →
          (s.mixCh ch).level = (s.mixCh ch).claims.level (s.mixCh ch).arbitration
          ∧ (s.mixCh ch).dutyLast = s.mix.duty (s.mixCh ch).curve (s.mixCh ch).level)

/-- The mixer holds the claims of exactly the contexts that are PAUSED or FAULTED (R58, R65, R94). -/
abbrev State.heldSound (s : State) : Prop :=
  ∀ p : Ctx, ctxIn p s.mix.held = ((s.ctx p).phase == .paused || (s.ctx p).phase == .faulted)

/-! ### What statements say of a state after a step -/

/-- The array that a reset leaves, for every value of the free values: only the store operation in progress
at the port has touched it, each byte it was writing independently of the others (R21). -/
abbrev State.leavesArray (s : State) (cells : Memory) : Prop :=
  match (if s.store.port = some .link then s.store.linkOp else none) with
  | some (.program word data) =>
    0 < data.length → data.length % 4 = 0 →
    (∀ b, (b < 4 * word ∨ 4 * word + data.length ≤ b) → cells.read b = s.store.cells.read b)
      ∧ ∃ k, k < data.length / 4 ∧ ∀ i, ∀ h : i < data.length,
          let was := s.store.cells.read (4 * word + i)
          let now := cells.read (4 * word + i)
          (i / 4 < k → now = was &&& data[i]) ∧ (i / 4 = k → now = was ∨ now = was &&& data[i])
            ∧ (k < i / 4 → now = was)
  | some (.eraseFrame f) =>
    ∀ b, if 512 * f ≤ b ∧ b < 512 * f + 512 then
        cells.read b = s.store.cells.read b ∨ cells.read b = 0xFF
      else cells.read b = s.store.cells.read b
  | some .eraseAll => ∀ b, cells.read b = s.store.cells.read b ∨ cells.read b = 0xFF
  | _ => ∀ b, cells.read b = s.store.cells.read b

/-- The part in a reset of a cause, with this array: State.reset but for what a reset does not touch (R168,
R169; log 23). -/
abbrev State.inResetOf (s : State) (cause : ResetCause) (cells : Memory) (free : Nat) : State :=
  { State.reset with
    store := { State.reset.store with cells := cells }
    clk := { State.reset.clk with stage := .inReset cause, cause := s.clk.cause }
    link := { State.reset.link with hold := s.link.hold, rate := s.link.rate }
    free := free
    pending := s.pending }

/-- The command that is the arrival of a request (log 4). -/
def requestCommand : Request → Instr
  | .storeRead a n => .storeRead a n
  | .storeProgram w d => .storeProgram w d
  | .storeEraseFrame f => .storeEraseFrame f
  | .storeEraseAll => .storeEraseAll
  | .setWriteEnable m k => .setWriteEnable m k
  | .go c => .go c
  | .goWithPointer c p => .goWithPointer c p
  | .pause c => .pause c
  | .resume c => .resume c
  | .stop c => .stop c
  | .release c f => .release c f
  | .configContext c h r => .configContext c h r
  | .queryContext c => .queryContext c
  | .postEvent e => .postEvent e
  | .setCounter c v => .setCounter c v
  | .queryCounters => .queryCounters
  | .setLevel c l f p => .setLevel c l f p
  | .releaseLevel c f => .releaseLevel c f
  | .queryChannel c => .queryChannel c
  | .reloadCurves => .reloadCurves
  | .configChannel c e => .configChannel c e
  | .configFault k m => .configFault k m
  | .clearFault k => .clearFault k
  | .configGroup g e => .configGroup g e
  | .configTrigger l e => .configTrigger l e
  | .queryTrigger l => .queryTrigger l
  | .configMatcher m e => .configMatcher m e
  | .queryQueue => .queryQueue
  | .setTick c => .setTick c
  | .resetPart => .resetPart
  | .identify => .identify
  | .status => .status

/-- The body lengths that a request kind allows; a kind that is no request's allows none (R178, section
11.3). -/
def lengthAllowed (kind : Byte) (n : Nat) : Bool :=
  match kind.toNat with
  | 0x01 => n == 3
  | 0x02 => 2 ≤ n
  | 0x03 => n == 1
  | 0x04 => n == 0
  | 0x05 => n == 4
  | 0x06 => n == 1 || n == 3
  | 0x07 => n == 1
  | 0x08 => n == 1
  | 0x09 => n == 1
  | 0x0A => n == 3
  | 0x0B => n == 4
  | 0x0C => n == 1
  | 0x0D => n == 2
  | 0x0E => n == 0
  | 0x0F => n == 5
  | 0x10 => n == 3
  | 0x11 => n == 1
  | 0x12 => n == 0
  | 0x13 => n == 9
  | 0x14 => n == 2
  | 0x15 => n == 1
  | 0x16 => n == 4
  | 0x17 => n == 11
  | 0x18 => n == 1
  | 0x19 => n == 21
  | 0x1A => n == 0
  | 0x1B => n == 1
  | 0x1C => n == 0
  | 0x1D => n == 0
  | 0x1E => n == 0
  | 0x1F => n == 1
  | _ => false

/-- Context p has followed a pointer field: it is IDLE, FAULTED or begins a resolution (R32, R43). -/
abbrev State.hasFollowed (t : State) (p : Ctx) (field : Half) : Prop :=
  (t.ctx p).activity =
    if ptrEnd field then .idle
    else if ptrIndex field < 128 then .faulted .badPointer (ptrIndex field)
    else .fetch { position := ptrIndex field,
                  kind := if ptrIndirect field then .linkStep else .probe, steps := 0 } false

/-- Context p has completed a cue normally in a step from s: the loop operation is made where L is set,
and the pointer field chosen is followed (R52, R82). -/
abbrev State.hasCompleted (s t : State) (p : Ctx) (cue : Cue) : Prop :=
  match cue.loop with
  | none => t.cells = s.cells ∧ t.hasFollowed p cue.next
  | some b =>
    if s.cells[b.cell] = 0 then
      t.cells = s.cells.set b.cell b.reload ∧ t.hasFollowed p cue.next
    else
      t.cells = s.cells.set b.cell (s.cells[b.cell] - 1) ∧ t.hasFollowed p b.pointer

/-- What a context's step from s shows where it ends a resolution: in FAULTED its claims are held and
CONTEXT_FAULT is queued; in IDLE the current cue pointer is absent, and CONTEXT_IDLE with the way END is
queued where the report flag is on; the entry is reported. A resolution that goes on shows nothing (R42,
R63, R65). -/
abbrev State.showsOutcome (s t : State) (p : Ctx) : Prop :=
  match (t.ctx p).activity with
  | .faulted reason word =>
    t.mix.held = s.mix.held ||| ctxBit p ∧ (t.ctx p).current = (s.ctx p).current
      ∧ t.link = (s.notify (.contextFault p reason word (s.ctx p).current)).link
      ∧ t.reports = s.reports ++ [⟨p, .faulted⟩]
  | .idle =>
    t.mix.held = s.mix.held ∧ (t.ctx p).current = none
      ∧ t.link = (if (s.ctx p).report then s.notify (.contextIdle p .ended (s.ctx p).current)
                  else s).link
      ∧ t.reports = s.reports ++ [⟨p, .idle⟩]
  | _ =>
    t.mix.held = s.mix.held ∧ (t.ctx p).current = (s.ctx p).current ∧ t.link = s.link
      ∧ t.reports = s.reports

/-- In a step from s that completes the operation at the port, the port has passed at once as the arbiter
grants it, and the claimant granted stands last in the grant order (R17). -/
abbrev State.portPasses (s t : State) : Prop :=
  let freed : State := { t with store := { t.store with port := none, order := s.store.order } }
  t.store.port = freed.arbitrate.store.port ∧ t.store.order = freed.arbitrate.store.order

/-- The contexts in RELEASING whose last claim a step from s has taken (R62, R95). -/
abbrev State.leaving (s t : State) : List Ctx :=
  allCtx.filter fun p =>
    (s.ctx p).activity == .releasing && s.mix.holdsClaim p && !t.mix.holdsClaim p

/-- The leaving contexts of a step from s have entered IDLE in an order, each with its report and, where its
report flag is on, CONTEXT_IDLE with the way RELEASED behind what stood in the outbound queue of `base`; the
others stay as they are (R62, R63, R95; any order, log 9). -/
abbrev State.showsGone (s t base : State) (order : List Ctx) : Prop :=
  order.Perm (s.leaving t)
    ∧ (∀ p, t.ctx p = if p ∈ order then { s.ctx p with activity := .idle, current := none }
        else s.ctx p)
    ∧ t.reports = s.reports ++ order.map (fun p => ⟨p, .idle⟩)
    ∧ t.link = (order.foldl (fun (u : State) p =>
        if (s.ctx p).report then u.notify (.contextIdle p .released (s.ctx p).current) else u)
        base).link

/-- The delivery record that a firing appends (R137, R154). -/
abbrev Firing.appends (f : Firing) (src : Source) : DeliveryRecord :=
  { source := src, mode := f.mode, remaining := f.targets, taken := false
    delivery := match f.action with
      | .go => .go f.pointer
      | .release => .release f.fade.toNat
      | _ => .stop
    expiry := if f.expiry.toNat = 0 then none else some f.expiry.toNat }

/-- The port's side of a request that becomes the link store operation: it is granted where the port is
free, and waits otherwise (R8, R16, R17). -/
abbrev State.withLinkOp (s : State) (op : LinkOp) : State :=
  { s with store := { s.store with
      linkOp := some op, port := s.store.port.or (some .link),
      order := if s.store.port.isSome then s.store.order
               else s.store.order.erase .link ++ [.link] } }

/-- A request that has no reply until its operation completes stays in service (R182). -/
abbrev State.serving (s : State) (r : Request) : State :=
  s.modLink fun l => { l with service := some (.request r) }

/-- What a channel's output record keeps when the mixer hands it duties (R113). -/
abbrev OutChannel.sameButDuty (a b : OutChannel) : Prop :=
  b = { a with buffered := { a.buffered with duty := b.buffered.duty } }

/-- The configuration that requests and the header give the part: the live mask, the contexts' home
pointers and report flags, the channels' and sources' settings, the groups, the trigger entries, the
matchers, and the tick code. -/
abbrev State.sameConfig (s t : State) : Prop :=
  t.store.mask = s.store.mask ∧ t.clk.tickCode = s.clk.tickCode ∧ t.trig.groups = s.trig.groups
    ∧ (∀ p, (t.ctx p).home = (s.ctx p).home ∧ (t.ctx p).report = (s.ctx p).report)
    ∧ (∀ ch, (t.mixCh ch).arbitration = (s.mixCh ch).arbitration
        ∧ (t.mixCh ch).curve = (s.mixCh ch).curve
        ∧ (t.mixCh ch).secondary = (s.mixCh ch).secondary)
    ∧ (∀ ch, (t.outCh ch).buffered.mode = (s.outCh ch).buffered.mode
        ∧ (t.outCh ch).buffered.period = (s.outCh ch).buffered.period
        ∧ (t.outCh ch).buffered.deadTime = (s.outCh ch).buffered.deadTime
        ∧ (t.outCh ch).safe = (s.outCh ch).safe ∧ (t.outCh ch).mask = (s.outCh ch).mask)
    ∧ (∀ k : Fin 2, (t.out.sources[k]).mode = (s.out.sources[k]).mode)
    ∧ (∀ l, (t.trigger l).config = (s.trigger l).config)
    ∧ (∀ k : Fin 2, (t.trig.matchers[k]).config = (s.trig.matchers[k]).config)

/-- What a step of context p leaves as it is in the rest of the part. -/
abbrev State.sameBesides (s t : State) (p : Ctx) : Prop :=
  s.sameConfig t ∧ t.clk = s.clk ∧ t.owed = s.owed ∧ t.trig = s.trig ∧ t.posts = s.posts
    ∧ (∀ a, t.store.cells.read a = s.store.cells.read a)
    ∧ t.store.lockActive = s.store.lockActive ∧ t.store.linkOp = s.store.linkOp
    ∧ t.out.sources = s.out.sources ∧ (∀ ch, (s.outCh ch).sameButDuty (t.outCh ch))
    ∧ t.mix.curves = s.mix.curves
    ∧ t.link.receiver = s.link.receiver ∧ t.link.buffered = s.link.buffered
    ∧ t.link.hold = s.link.hold ∧ t.link.rate = s.link.rate ∧ t.link.dropped = s.link.dropped
    ∧ (∀ q, q ≠ p → t.ctx q = s.ctx q)
    ∧ (∀ ch c, c ≠ .ctx p → (t.mixCh ch).claims.get c = (s.mixCh ch).claims.get c)
    ∧ (∀ q, q ≠ p → ctxIn q t.mix.held = ctxIn q s.mix.held)

end Sys2Proof.Machine
end

