-- ==== Sys2Proof/Certificates/Slice0/Obligations.lean ====
section
/-! DEFINITION. The statements for the provers. Each formalises rules of spec/ over the model's own names;
a clause that rests on a choice of the model names its log entry. -/

open Sys2Proof Sys2Proof.Machine

/-! ### The machine -/

/-- The command at the front of the queue is run on the state with the queue's rest; on an empty queue the
part idles (the model's choice, log 6). -/
def Obligations.StepTakesTheFrontCommand : Prop :=
  (∀ (c : Instr) (rest : List Instr) (s : State),
     step (s.withPending (c :: rest)) = exec c (s.withPending rest))
  ∧ (∀ s : State, s.pending = [] → step s = .next s)

/-- No command's effect, a reset's among them, touches the queue of waiting commands (the model's choice,
log 23); and every byte of the store stays as it is at every command but the completion of a program or an
erase and a reset (R1, R2, R21; that the array changes at completions alone, log 19). -/
def Obligations.WhatCommandsLeave : Prop :=
  (∀ (c : Instr) (s t : State), exec c s = .next t → t.pending = s.pending)
  ∧ (∀ (c : Instr) (s t : State), exec c s = .next t →
       c ≠ .storeProgramComplete → c ≠ .eraseFrameComplete → c ≠ .eraseAllComplete →
       c ≠ .powerReset → c ≠ .pinReset → (c = .frameTransmitted → s.clk.resetPending = false) →
       ∀ a, t.store.cells.read a = s.store.cells.read a)

/-- State.reset is the part held in a POWER reset, with every block at its reset values (R168 and the
rules it names); the array, the HOLD level and the link rate are the model's choices (log 1 to 3), and so are
the fifteen bits of a home pointer beside its END bit (log 31). -/
def Obligations.ResetStateIsAsGiven : Prop :=
  let s := State.reset
  s.clk = { stage := .inReset .power, tickCode := 3, intervalCode := 3, stamp := 0, cause := .power,
            resetPending := false }
  ∧ s.store = { cells := [], mask := 0, lockActive := false, port := none,
                order := [.ctx 0, .ctx 1, .ctx 2, .ctx 3, .link], linkOp := none }
  ∧ (∀ p, s.ctx p = { activity := .idle, current := none, arrivals := 0, home := 0xFFFF,
                      report := false })
  ∧ (∀ k : Fin 16, s.cells[k] = 0)
  ∧ s.mix.held = 0 ∧ (∀ k : Fin 3, s.mix.curves[k] = none)
  ∧ (∀ ch, s.mixCh ch = { claims := .empty, stampCounter := 0, arbitration := .htp, curve := 0,
                          secondary := false, level := 0, dutyLast := 0 })
  ∧ (∀ ch, (s.outCh ch).buffered = { mode := .off, period := 1, deadTime := 0, duty := 0 }
      ∧ (s.outCh ch).active = { mode := .off, period := 1, deadTime := 0, duty := 0 }
      ∧ (s.outCh ch).safe = false ∧ (s.outCh ch).mask = 0 ∧ (s.outCh ch).shutdown = false
      ∧ (s.outCh ch).paired = false)
  ∧ (∀ k : Fin 2, s.out.sources[k] = { mode := .latch, latch := false, input := false })
  ∧ (∀ l : Line, s.trig.lines[l] = { high := false, run := 0, sampled := false })
  ∧ (∀ g : Fin 3, s.trig.groups[g] = { enable := false, report := false, filter := 0 })
  ∧ (∀ l, s.trigger l = { config := TriggerConfig.default, coalesced := false, missed := false,
                          resting := false, heldBy := 0 })
  ∧ (∀ k : Fin 2, s.trig.matchers[k] = { config := MatcherConfig.default, progress := 0,
                                         gapRemaining := 0, coalesced := false, missed := false })
  ∧ s.trig.queue = [] ∧ (∀ p : Ctx, s.trig.known[p] = .idle)
  ∧ s.link = { receiver := .hunt, service := none, buffered := none, outbound := [],
               sending := false, hold := false, rate := .slow, dropped := false,
               overflow := false }
  ∧ s.reports = [] ∧ s.posts = [] ∧ s.owed = { play := 0, mix := 0, trig := 0, taken := 0 }
  ∧ s.ready = false ∧ (∀ ch u, s.pinActive ch u = false)
  ∧ s.storeSound ∧ s.portSound ∧ s.queueSound ∧ s.outboundSound ∧ s.pairsSound ∧ s.levelsSound
  ∧ s.quietBeforeRunning ∧ s.heldSound

/-! ### Replies, notices and the queries (R68, R86, R105, R144, R162, R182, R185, R191, R193, R194) -/

/-- A reply ends the service and is queued at the tail; a notice is queued at the tail with the tick
stamp, or is discarded with the notice-overflow flag set where 24 notices stand queued; the frame is begun
where HOLD is low (R166, R182, R185, R186). -/
def Obligations.RepliesAndNoticesAreQueued : Prop :=
  ∀ s : State,
    (∀ r : Reply, s.reply r = { s with link := { s.link with
        service := none, outbound := s.link.outbound ++ [.reply r],
        sending := s.link.sending || !s.link.hold } })
    ∧ (∀ n : Notice, s.notify n = { s with link :=
        if 24 ≤ s.link.notices then { s.link with overflow := true }
        else { s.link with outbound := s.link.outbound ++ [.notice s.clk.stamp n],
                           sending := s.link.sending || !s.link.hold } })

/-- IDENTIFY is answered with IDENTITY and QUERY_COUNTERS with the sixteen cells, and neither changes any
state (R193, R86). STATUS is answered with the part as it stands; the two link flags are then cleared, and
nothing else changes (R194). -/
def Obligations.IdentifyCountersAndStatusAreAnswered : Prop :=
  (∀ s : State,
     (s.accepts → exec .identify s = .next (s.reply (.identity s.link.rate)))
     ∧ (s.isRunning = true →
         s.bringIntoService (.request .identify) = s.reply (.identity s.link.rate))
     ∧ (Reply.identity s.link.rate).body
         = [0xC5, 0x24, 0x70, 0x09, 1, 0x00, 0x00, 0x01, 0x00, 4, 16, 24,
            match s.link.rate with | .slow => 0 | .fast => 1])
  ∧ (∀ s : State,
       (s.accepts → exec .queryCounters s = .next (s.reply (.counterInfo s.cells)))
       ∧ (s.isRunning = true →
           s.bringIntoService (.request .queryCounters) = s.reply (.counterInfo s.cells))
       ∧ (Reply.counterInfo s.cells).body.length = 16
       ∧ ∀ k : Fin 16, (Reply.counterInfo s.cells).body[k.val]? = some s.cells[k])
  ∧ (∀ s : State, s.isRunning = true →
       ∃ i : StatusInfo,
         s.bringIntoService (.request .status)
           = (s.reply (.status i)).modLink (fun l => { l with dropped := false, overflow := false })
         ∧ (s.accepts → exec .status s
             = .next ((s.reply (.status i)).modLink
                 fun l => { l with dropped := false, overflow := false }))
         ∧ i.cause = s.clk.cause ∧ i.tickCode = s.clk.tickCode ∧ i.stamp = s.clk.stamp
         ∧ i.lockActive = s.store.lockActive ∧ i.mask = s.store.mask
         ∧ i.linkOpKind = (match s.store.linkOp with
             | none => 0
             | some (.read _ _) => (Request.storeRead 0 0).kind
             | some (.program _ _) => (Request.storeProgram 0 []).kind
             | some (.eraseFrame _) => (Request.storeEraseFrame 0).kind
             | some .eraseAll => Request.storeEraseAll.kind
             | some .reloadCurves => Request.reloadCurves.kind)
         ∧ (∀ p : Ctx, i.phases[p] = (s.ctx p).phase)
         ∧ i.sources = s.out.sources
         ∧ (∀ f : FaultSource, (f.byte.getLsbD 0 = true ↔ f.mode = .follow)
             ∧ f.byte.getLsbD 1 = f.latch ∧ f.byte.getLsbD 2 = f.input
             ∧ f.byte.getLsbD 3 = f.asserted)
         ∧ (∀ ch : Chan, i.shutdown.getLsbD ch.val = (s.outCh ch).shutdown)
         ∧ i.records = s.trig.queue.length
         ∧ i.notices = s.link.notices ∧ i.replies = s.link.replies
         ∧ i.buffered = s.link.buffered.isSome
         ∧ i.dropped = s.link.dropped ∧ i.overflow = s.link.overflow
         ∧ i.body[1]? = some 1)

/-- QUERY_CONTEXT and QUERY_CHANNEL are answered with the context or channel as it stands and change no
state; QUERY_TRIGGER and QUERY_QUEUE are answered with the entry, or with the queue and the matchers, as they
stand, and the coalesced and missed marks reported are then cleared; a number out of range is refused
BAD_FIELD (R68, R105, R144, R162). -/
def Obligations.QueriesAreAnswered : Prop :=
  (∀ (s : State) (n : Byte), s.accepts →
     (∀ p : Ctx, n.toNat = p.val →
       exec (.queryContext n) s = .next (s.reply (.contextInfo p (s.ctx p))))
     ∧ (3 < n.toNat → exec (.queryContext n) s = .next (s.refuse (.queryContext n) .badField))
     ∧ (∀ ch : Chan, n.toNat = ch.val →
       exec (.queryChannel n) s = .next (s.reply (.channelInfo ch (s.mixCh ch) s.mix.held)))
     ∧ (15 < n.toNat → exec (.queryChannel n) s = .next (s.refuse (.queryChannel n) .badField)))
  ∧ (∀ (s : State) (n : Byte), s.accepts →
       (∀ l : Line, n.toNat = l.val →
         exec (.queryTrigger n) s = .next
           (let t := s.reply (.triggerInfo l (s.trigger l) (s.trig.lines[l]).high (s.lineActive l)
               (s.trig.groups[lineGroup l]).enable (s.trig.queue.any fun r => r.source == .line l))
            let e : Trigger := { s.trigger l with coalesced := false, missed := false }
            { t with trig := { s.trig with triggers := s.trig.triggers.set l e } }))
       ∧ (23 < n.toNat → exec (.queryTrigger n) s = .next (s.refuse (.queryTrigger n) .badField))
       ∧ exec .queryQueue s = .next
           (let t := s.reply (.queueInfo s.trig.queue s.trig.matchers)
            let m0 : Matcher := { s.trig.matchers[0] with coalesced := false, missed := false }
            let m1 : Matcher := { s.trig.matchers[1] with coalesced := false, missed := false }
            { t with trig := { s.trig with matchers := #v[m0, m1] } }))

/-! ### The Show Store (R2, R4, R5, R8 to R17, R101, R102) -/

/-- SET_WRITE_ENABLE sets the live mask where the key is the inverted mask, and is refused KEY otherwise
(R5). A store request that passes its checks becomes the link store operation in progress; the port is
granted to LINK, which moves to the end of the grant order, or the request waits. STORE_PROGRAM and the
erases are acknowledged at once; STORE_READ and RELOAD_CURVES stay in service (R8, R9, R11, R13, R14, R16,
R17, R102). -/
def Obligations.StoreRequestsAreTaken : Prop :=
  (∀ (s : State) (mask key : Half), s.accepts →
     exec (.setWriteEnable mask key) s = .next
       (if key = mask ^^^ 0xFFFF then
         (s.ack (.setWriteEnable mask key)).modStore fun st => { st with mask := mask }
        else s.refuse (.setWriteEnable mask key) .key))
  ∧ (∀ s : State, s.accepts → s.portSound → s.store.linkOp = none →
       (∀ (address : Half) (length : Byte), s.store.lockActive = false → 0 < length.toNat →
         length.toNat ≤ 224 → address.toNat + length.toNat ≤ 65536 →
         exec (.storeRead address length) s = .next
           ((s.serving (.storeRead address length)).withLinkOp (.read address length)))
       ∧ (∀ (word : Half) (data : List Byte), s.store.lockActive = false → 0 < data.length →
         data.length % 4 = 0 → data.length ≤ 224 → word.toNat + data.length / 4 ≤ 16384 →
         (∀ i : Fin (data.length / 4), s.store.mask.getLsbD ((word.toNat + i.val) / 1024) = true) →
         exec (.storeProgram word data) s = .next
           ((s.ack (.storeProgram word data)).withLinkOp (.program word.toNat data)))
       ∧ (∀ frame : Byte, s.store.lockActive = false → frame.toNat ≤ 127 →
         s.store.mask.getLsbD (frame.toNat / 8) = true →
         exec (.storeEraseFrame frame) s = .next
           ((s.ack (.storeEraseFrame frame)).withLinkOp (.eraseFrame frame.toNat)))
       ∧ (s.store.mask = 0xFFFF →
         exec .storeEraseAll s = .next ((s.ack .storeEraseAll).withLinkOp .eraseAll))
       ∧ exec .reloadCurves s = .next ((s.serving .reloadCurves).withLinkOp .reloadCurves))

/-- A store request is refused with the first of its checks that fails, in the order fields, lock,
protection, busy; STORE_ERASE_ALL has no lock check and RELOAD_CURVES the busy check alone (R8, R9, R11,
R13, R14, R102). -/
def Obligations.StoreRequestsAreRefusedInOrder : Prop :=
  ∀ s : State, s.accepts →
    (∀ (address : Half) (length : Byte),
      let answer := fun why => exec (.storeRead address length) s
        = .next (s.refuse (.storeRead address length) why)
      if length.toNat = 0 ∨ 224 < length.toNat ∨ 65536 < address.toNat + length.toNat then
        answer .badField
      else if s.store.lockActive = true then answer .locked
      else s.store.linkOp ≠ none → answer .busy)
    ∧ (∀ (word : Half) (data : List Byte),
      let answer := fun why => exec (.storeProgram word data) s
        = .next (s.refuse (.storeProgram word data) why)
      if 16383 < word.toNat ∨ data.length = 0 ∨ data.length % 4 ≠ 0 ∨ 224 < data.length
          ∨ 16384 < word.toNat + data.length / 4 then answer .badField
      else if s.store.lockActive = true then answer .locked
      else if ∃ i : Fin (data.length / 4),
          s.store.mask.getLsbD ((word.toNat + i.val) / 1024) = false then answer .protected_
      else s.store.linkOp ≠ none → answer .busy)
    ∧ (∀ frame : Byte,
      let answer := fun why => exec (.storeEraseFrame frame) s
        = .next (s.refuse (.storeEraseFrame frame) why)
      if 127 < frame.toNat then answer .badField
      else if s.store.lockActive = true then answer .locked
      else if s.store.mask.getLsbD (frame.toNat / 8) = false then answer .protected_
      else s.store.linkOp ≠ none → answer .busy)
    ∧ (if s.store.mask ≠ 0xFFFF then
        exec .storeEraseAll s = .next (s.refuse .storeEraseAll .protected_)
      else s.store.linkOp ≠ none →
        exec .storeEraseAll s = .next (s.refuse .storeEraseAll .busy))
    ∧ (s.store.linkOp ≠ none → exec .reloadCurves s = .next (s.refuse .reloadCurves .busy))

/-- Programming stores the AND of the former byte and the byte supplied; and no command but an erase's
completion, or a reset that interrupts an erase, changes a store byte to a value with a one-bit that it did
not have (R2). -/
def Obligations.ProgrammingClearsBits : Prop :=
  (∀ (m : Memory) (a : Nat) (v : Byte), (m.programByte a v).read a = m.read a &&& v)
  ∧ (∀ (m : Memory) (a : Nat) (data : List Byte) (b : Nat),
      (m.program a data).read b
        = if h : a ≤ b ∧ b < a + data.length then m.read b &&& data[b - a] else m.read b)
  ∧ (∀ (c : Instr) (s t : State), exec c s = .next t →
      (∀ f, s.store.linkOp ≠ some (.eraseFrame f)) → s.store.linkOp ≠ some .eraseAll →
      ∀ a, s.store.cells.read a &&& t.store.cells.read a = t.store.cells.read a)

/-- A completed STORE_READ replies with the bytes as the array holds them (R10). A completed STORE_PROGRAM
has programmed every word; its STORE_DONE carries the lowest address at which the array then differs from
the bytes supplied, if any; the lock test is made again where a word lies in store frame 0 (R7, R12, R15). A
completed erase has set its bytes to 0xFF and leaves every other byte (R1, R13, R14). Each ends the link
store operation, and the port passes at once to the first waiting claimant (R17). -/
def Obligations.StoreOperationsComplete : Prop :=
  (∀ (s : State) (address : Half) (length : Byte), s.store.port = some .link →
     s.store.linkOp = some (.read address length) →
     ∃ (t : State) (bytes : List Byte), exec .storeReadComplete s = .next t
       ∧ bytes.length = length.toNat
       ∧ (∀ i, i < length.toNat → bytes[i]? = some (s.store.cells.read (address.toNat + i)))
       ∧ t.link = (s.reply (.storeData address bytes)).link
       ∧ t.store.linkOp = none ∧ t.store.port ≠ some .link ∧ s.portPasses t
       ∧ { t with link := s.link, store := s.store } = s
       ∧ (∀ a, t.store.cells.read a = s.store.cells.read a))
  ∧ (∀ (s : State) (word : Nat) (data : List Byte), s.store.port = some .link →
       s.store.linkOp = some (.program word data) →
       ∃ (t : State) (result : Option Nat), exec .storeProgramComplete s = .next t
         ∧ (∀ b, t.store.cells.read b
             = if h : 4 * word ≤ b ∧ b < 4 * word + data.length then
                 s.store.cells.read b &&& data[b - 4 * word]
               else s.store.cells.read b)
         ∧ (match result with
             | none => ∀ i, ∀ h : i < data.length, t.store.cells.read (4 * word + i) = data[i]
             | some b => ∃ i, ∃ h : i < data.length, b = 4 * word + i
                 ∧ t.store.cells.read b ≠ data[i]
                 ∧ ∀ j, ∀ hj : j < i, t.store.cells.read (4 * word + j) = data[j])
         ∧ t.store.lockActive = (if word < 128 then t.store.cells.lockTest else s.store.lockActive)
         ∧ t.link = (s.notify (.storeDone .program word result)).link
         ∧ t.store.mask = s.store.mask ∧ t.store.linkOp = none ∧ t.store.port ≠ some .link
         ∧ s.portPasses t
         ∧ { t with link := s.link, store := s.store } = s)
  ∧ (∀ s : State, s.store.port = some .link →
       (∀ f, s.store.linkOp = some (.eraseFrame f) →
         ∃ t, exec .eraseFrameComplete s = .next t
           ∧ (∀ b, t.store.cells.read b
               = if 512 * f ≤ b ∧ b < 512 * f + 512 then 0xFF else s.store.cells.read b)
           ∧ t.store.lockActive = (if f = 0 then false else s.store.lockActive)
           ∧ t.link = (s.notify (.storeDone .eraseFrame f none)).link
           ∧ t.store.mask = s.store.mask ∧ t.store.linkOp = none ∧ t.store.port ≠ some .link
           ∧ s.portPasses t
           ∧ { t with link := s.link, store := s.store } = s)
       ∧ (s.store.linkOp = some .eraseAll →
         ∃ t, exec .eraseAllComplete s = .next t
           ∧ (∀ b, t.store.cells.read b = 0xFF) ∧ t.store.lockActive = false
           ∧ t.link = (s.notify (.storeDone .eraseAll 0 none)).link
           ∧ t.store.mask = s.store.mask ∧ t.store.linkOp = none ∧ t.store.port ≠ some .link
           ∧ s.portPasses t
           ∧ { t with link := s.link, store := s.store } = s))

/-- The end of a curve load fills the three slots from the header's curve frame numbers, or makes them
linear, and answers RELOAD_CURVES with ACK; every channel with curve 1 to 3 has its level translated through
the new slot, and the channels of curve 0 stay as they are; the port passes at once (R17, R100, R101, R102).
-/
def Obligations.CurveLoadFillsTheSlots : Prop :=
  ∀ s : State, s.store.port = some .link → s.store.linkOp = some .reloadCurves →
    ∃ t, exec .curveLoadComplete s = .next t
      ∧ (∀ k : Fin 3, t.mix.curves[k] =
          let number := (s.store.cells.read (9 + k.val)).toNat
          if s.store.cells.headerValid = false ∨ number = 0 ∨ 128 ≤ number then none
          else if ∀ i, i < 512 → s.store.cells.read (512 * number + i) = 0xFF then none
          else some (Vector.ofFn fun n : Fin 256 =>
            halfOf (s.store.cells.read (512 * number + 2 * n.val))
              (s.store.cells.read (512 * number + 2 * n.val + 1))))
      ∧ (∀ ch, (s.mixCh ch).curve = 0 → t.mixCh ch = s.mixCh ch ∧ t.outCh ch = s.outCh ch)
      ∧ (∀ ch, (s.mixCh ch).curve ≠ 0 → (s.mixCh ch).secondary = false →
          (t.mixCh ch).dutyLast = t.mix.duty (s.mixCh ch).curve (s.mixCh ch).level
          ∧ (t.outCh ch).buffered.duty =
              (if (t.mixCh ch).dutyLast = (s.mixCh ch).dutyLast then (s.outCh ch).buffered.duty
               else (t.mixCh ch).dutyLast))
      ∧ (∀ ch, (t.mixCh ch).claims = (s.mixCh ch).claims ∧ (t.mixCh ch).level = (s.mixCh ch).level
          ∧ (s.outCh ch).sameButDuty (t.outCh ch))
      ∧ t.link = (s.ack .reloadCurves).link
      ∧ t.store.linkOp = none ∧ t.store.port ≠ some .link ∧ s.portPasses t
      ∧ (∀ a, t.store.cells.read a = s.store.cells.read a)
      ∧ { t with link := s.link, store := s.store, mix := s.mix, out := s.out } = s

/-- The grant goes to the waiting claimant that stands first in the grant order, which then moves to its
end; with the port in use, or no claimant waiting, nothing changes (R17). A claimant waits where its request
is not the operation at the port: a context's is its fetch read, the link's its store operation (R16). -/
def Obligations.ArbiterGrantsTheFirst : Prop :=
  (∀ (s : State) (before after : List Claimant) (c : Claimant), s.store.port = none →
     s.store.order = before ++ c :: after → c ∉ before →
     (∀ d ∈ before, s.waitsAtPort d = false) → s.waitsAtPort c = true →
     s.arbitrate = { s with store := { s.store with
       port := s.portRequest c, order := before ++ after ++ [c] } })
  ∧ (∀ s : State, (s.store.port ≠ none ∨ ∀ c ∈ s.store.order, s.waitsAtPort c = false) →
       s.arbitrate = s)
  ∧ (∀ s : State,
       (∀ c, s.waitsAtPort c = true ↔ s.portRequest c ≠ none ∧ s.portRequest c ≠ s.store.port)
       ∧ (∀ p : Ctx, s.portRequest (.ctx p) = match (s.ctx p).activity with
           | .fetch r _ => some (.fetch p r.kind r.position true)
           | _ => none)
       ∧ (s.portRequest .link = if s.store.linkOp = none then none else some .link))

/-! ### Playback contexts: requests (R54 to R61, R66) -/

/-- A context number above 3 is refused BAD_FIELD by every context request, and so is a RELEASE fade of
65535 (R54, R61). CONFIG_CONTEXT takes the home pointer and the report flag at once, in every phase, and the
pending trigger queue is examined: with no record standing nothing else changes (R66, R155). -/
def Obligations.ContextConfigurationAndChecks : Prop :=
  (∀ (s : State) (n : Byte) (field fade : Half) (flag : Byte), s.accepts →
     (3 < n.toNat →
       exec (.go n) s = .next (s.refuse (.go n) .badField)
       ∧ exec (.goWithPointer n field) s = .next (s.refuse (.goWithPointer n field) .badField)
       ∧ exec (.pause n) s = .next (s.refuse (.pause n) .badField)
       ∧ exec (.resume n) s = .next (s.refuse (.resume n) .badField)
       ∧ exec (.stop n) s = .next (s.refuse (.stop n) .badField)
       ∧ exec (.release n fade) s = .next (s.refuse (.release n fade) .badField)
       ∧ exec (.configContext n field flag) s
           = .next (s.refuse (.configContext n field flag) .badField))
     ∧ (fade.toNat = 65535 → exec (.release n fade) s = .next (s.refuse (.release n fade) .badField)))
  ∧ (∀ (s : State) (n : Byte) (p : Ctx) (home : Half) (flag : Byte), s.accepts → n.toNat = p.val →
       let r := Request.configContext n home flag
       let s1 : State := { s.ack r with
         contexts := s.contexts.set p { s.ctx p with home := home, report := flag.getLsbD 0 } }
       exec (.configContext n home flag) s = .next s1.examine
         ∧ (s.trig.queue = [] → exec (.configContext n home flag) s = .next s1)
         ∧ (∀ q, (s1.examine.ctx q).home = (s1.ctx q).home
             ∧ (s1.examine.ctx q).report = (s1.ctx q).report))

/-- GO without a pointer: from IDLE it follows the home pointer, or is refused NO_CUE; in FADE, HOLD and
WAIT it completes the cue normally; BUSY in FETCH, STATE in PAUSED and RELEASING, FAULTED in FAULTED (R55).
GO with a pointer: its pointer field is followed from IDLE, FADE, HOLD, WAIT and RELEASING, with no loop
operation; BUSY in FETCH, STATE in PAUSED, FAULTED in FAULTED (R56). -/
def Obligations.GoIsAnsweredByPhase : Prop :=
  (∀ (s : State) (n : Byte) (p : Ctx), s.accepts → n.toNat = p.val →
     exec (.go n) s = .next
       (match (s.ctx p).activity with
        | .idle =>
          if ptrEnd (s.ctx p).home then s.refuse (.go n) .noCue
          else (s.ack (.go n)).enterFetch p (s.ctx p).home
        | .fetch _ _ => s.refuse (.go n) .busy
        | .running cue _ => (s.ack (.go n)).completeNormally p cue
        | .paused _ _ => s.refuse (.go n) .state
        | .releasing => s.refuse (.go n) .state
        | .faulted _ _ => s.refuse (.go n) .faulted))
  ∧ (∀ (s : State) (n : Byte) (p : Ctx) (field : Half), s.accepts → n.toNat = p.val →
       let r := Request.goWithPointer n field
       exec (.goWithPointer n field) s = .next
         (match (s.ctx p).activity with
          | .idle => (s.ack r).enterFetch p field
          | .fetch _ _ => s.refuse r .busy
          | .running _ _ => (s.ack r).enterFetch p field
          | .paused _ _ => s.refuse r .state
          | .releasing => (s.ack r).enterFetch p field
          | .faulted _ _ => s.refuse r .faulted))

/-- PAUSE keeps the phase and its counts and holds the context's claims, or sets pause-pending in FETCH;
STATE elsewhere. RESUME returns to the saved phase with the counts kept and ends the hold; a count of 0, or
an event that has arrived, completes at once; STATE elsewhere (R57, R59). -/
def Obligations.PauseAndResume : Prop :=
  ∀ (s : State) (n : Byte) (p : Ctx), s.accepts → n.toNat = p.val →
    exec (.pause n) s = .next
      (match (s.ctx p).activity with
       | .running cue at_ =>
         { s.ack (.pause n) with
           contexts := s.contexts.set p { s.ctx p with activity := .paused cue at_ }
           reports := s.reports ++ [⟨p, .paused⟩]
           mix := { s.mix with held := s.mix.held ||| ctxBit p } }
       | .fetch res _ =>
         { s.ack (.pause n) with
           contexts := s.contexts.set p { s.ctx p with activity := .fetch res true } }
       | _ => s.refuse (.pause n) .state)
    ∧ exec (.resume n) s = .next
      (match (s.ctx p).activity with
       | .paused cue saved =>
         let t : State := { s.ack (.resume n) with
           contexts := s.contexts.set p { s.ctx p with activity := .running cue saved }
           reports := s.reports ++ [⟨p, (Activity.running cue saved).phase⟩]
           mix := { s.mix with held := ctxOut s.mix.held p } }
         match saved with
         | .fade 0 => t.completeFade p cue
         | .hold 0 => t.completeNormally p cue
         | .wait (.event e _ _) =>
           if (s.ctx p).arrivals.getLsbD e.val then t.completeNormally p cue else t
         | _ => t
       | _ => s.refuse (.resume n) .state)

/-- STOP removes the context's claims at once and takes it to IDLE with the way STOPPED, from IDLE without
any report or notice; a fetch read in progress goes on with no claimant (R19, R44, R60, R93). -/
def Obligations.StopTakesTheContextToIdle : Prop :=
  ∀ (s : State) (n : Byte) (p : Ctx), s.accepts → n.toNat = p.val →
    ∃ t, exec (.stop n) s = .next t ∧ s.sameBesides t p ∧ t.cells = s.cells
      ∧ (t.ctx p).activity = .idle
      ∧ (∀ ch, (t.mixCh ch).claims.get (.ctx p) = none) ∧ ctxIn p t.mix.held = false
      ∧ (t.ctx p).arrivals = (s.ctx p).arrivals
      ∧ ((s.ctx p).activity = .idle →
          t.ctx p = s.ctx p ∧ t.reports = s.reports ∧ t.link = (s.ack (.stop n)).link)
      ∧ ((s.ctx p).activity ≠ .idle →
          (t.ctx p).current = none ∧ t.reports = s.reports ++ [⟨p, .idle⟩]
          ∧ t.link = (if (s.ctx p).report then
                (s.ack (.stop n)).notify (.contextIdle p .stopped (s.ctx p).current)
              else s.ack (.stop n)).link)
      ∧ t.store.order = s.store.order
      ∧ (∀ res pp kind w, (s.ctx p).activity = .fetch res pp →
          s.store.port = some (.fetch p kind w true) →
          t.store.port = some (.fetch p kind w false))
      ∧ ((∀ kind w, s.store.port ≠ some (.fetch p kind w true)) → t.store.port = s.store.port)

/-- RELEASE fades every claim of the context from its present level to 0 over the fade, or removes it with a
fade of 0, and the context is RELEASING while it holds a claim; one that then holds none is IDLE, its current
cue pointer absent. Each phase it enters is reported. In IDLE without claims it does nothing but answer; in
FETCH it is refused BUSY (R42, R61, R62, R63, R92). -/
def Obligations.ReleaseFadesTheClaims : Prop :=
  ∀ (s : State) (n : Byte) (p : Ctx) (fade : Half), s.accepts → n.toNat = p.val →
    fade.toNat ≠ 65535 →
    let r := Request.release n fade
    (∀ res pp, (s.ctx p).activity = .fetch res pp →
      exec (.release n fade) s = .next (s.refuse r .busy))
    ∧ ((s.ctx p).activity = .idle → s.mix.holdsClaim p = false →
      exec (.release n fade) s = .next (s.ack r))
    ∧ ((∀ res pp, (s.ctx p).activity ≠ .fetch res pp) →
       ((s.ctx p).activity = .idle → s.mix.holdsClaim p = true) →
      ∃ t, exec (.release n fade) s = .next t ∧ s.sameBesides t p ∧ t.cells = s.cells
        ∧ (∀ ch, (t.mixCh ch).claims.get (.ctx p) =
            match (s.mixCh ch).claims.get (.ctx p) with
            | none => none
            | some c =>
              if fade.toNat = 0 then none
              else some { c with start := c.present, target := 0, total := fade.toNat,
                                 elapsed := 0, releasing := true })
        ∧ (t.ctx p).activity = (if t.mix.holdsClaim p then .releasing else .idle)
        ∧ (t.ctx p).current = (if t.mix.holdsClaim p then (s.ctx p).current else none)
        ∧ t.reports = s.reports
            ++ (if (s.ctx p).activity = .releasing then [] else [⟨p, .releasing⟩])
            ++ (if t.mix.holdsClaim p then [] else [⟨p, .idle⟩])
        ∧ ctxIn p t.mix.held = (ctxIn p s.mix.held
            && (s.ctx p).phase != .paused && (s.ctx p).phase != .faulted)
        ∧ t.link = (if t.mix.holdsClaim p = false ∧ (s.ctx p).report = true then
              (s.ack r).notify (.contextIdle p .released (s.ctx p).current)
            else s.ack r).link)

/-- What a request to one context leaves as it is in the rest of the part (R54 to R61). -/
def Obligations.ContextRequestsLeaveTheRest : Prop :=
  ∀ (s t : State) (n : Byte) (p : Ctx) (field fade : Half) (c : Instr), s.accepts →
    n.toNat = p.val →
    c ∈ [Instr.go n, .goWithPointer n field, .pause n, .resume n, .stop n, .release n fade] →
    exec c s = .next t →
    s.sameBesides t p ∧ (t.ctx p).home = (s.ctx p).home ∧ (t.ctx p).report = (s.ctx p).report
      ∧ (t.ctx p).arrivals = (s.ctx p).arrivals ∧ t.link.service = none
      ∧ (t.cells = s.cells ∨ ∃ cue b, (s.ctx p).cue = some cue ∧ cue.loop = some b
          ∧ ∀ k : Fin 16, k ≠ b.cell → t.cells[k] = s.cells[k])

/-! ### Playback contexts: resolution and cues (R22 to R39, R43 to R53, R72, R76 to R82) -/

/-- A pointer field that a context follows: END takes it through FETCH to IDLE with the way END, a word
index 0 to 127 to FAULTED with BAD_POINTER, and any other begins a resolution with a fetch request, granted
at once where the port is free and no one waits (R23, R32, R42, R43). -/
def Obligations.PointerFieldsAreFollowed : Prop :=
  ∀ (s : State) (p : Ctx) (field : Half),
    let t := s.enterFetch p field
    t.hasFollowed p field ∧ (s.report p .fetch).showsOutcome t p ∧ s.sameBesides t p
      ∧ t.cells = s.cells ∧ t.out = s.out ∧ t.mix = { s.mix with held := t.mix.held }
      ∧ (ptrEnd field = false → 128 ≤ ptrIndex field → s.portSound → s.store.port = none →
          t.store.port = some (.fetch p (if ptrIndirect field then .linkStep else .probe)
            (ptrIndex field) true)
          ∧ t.store.order = s.store.order.erase (.ctx p) ++ [.ctx p])
      ∧ (∀ op, s.store.port = some op →
          t.store.port = s.store.port ∧ t.store.order = s.store.order)

/-- The loop operation, taken whole: a cell above 0 is lowered by one and the answer is LOOP; a cell of 0 is
loaded with the reload value and the answer is NEXT. Nothing else of the counter cells or of the
reload value is kept (R82). -/
def Obligations.LoopOperation : Prop :=
  (∀ value reload : Byte, 0 < value.toNat →
      (loopOperation value reload).1 = true
      ∧ (loopOperation value reload).2.toNat = value.toNat - 1)
  ∧ (∀ reload : Byte, loopOperation 0 reload = (false, reload))
  ∧ (∀ (s : State) (p : Ctx) (cue : Cue) (b : LoopBlock), cue.loop = some b →
      let t := s.completeNormally p cue
      t.cells = s.cells.set b.cell (loopOperation s.cells[b.cell] b.reload).2
      ∧ t.hasFollowed p
          (if (loopOperation s.cells[b.cell] b.reload).1 then b.pointer else cue.next))

/-- A normal completion makes the loop operation where L is set and follows the pointer field chosen, and a
FADE that completes goes on to WAIT, to HOLD or through it, as the cue says (R49, R50, R52, R75). -/
def Obligations.CuesComplete : Prop :=
  ∀ (s : State) (p : Ctx) (cue : Cue),
    s.hasCompleted (s.completeNormally p cue) p cue
    ∧ s.sameBesides (s.completeNormally p cue) p
    ∧ (let t := s.completeFade p cue
       s.sameBesides t p
       ∧ (∀ w, cue.wait = some w →
          if (s.ctx p).arrivals.getLsbD w.event.val then s.hasCompleted t p cue
          else (t.ctx p).activity = .running cue (.wait (.event w.event w.timeout w.pointer))
            ∧ t.cells = s.cells ∧ t.reports = s.reports ++ [⟨p, .wait⟩])
       ∧ (cue.wait = none →
          if cue.hold = 65535 then
            (t.ctx p).activity = .running cue (.wait .go)
            ∧ t.cells = s.cells ∧ t.reports = s.reports ++ [⟨p, .wait⟩]
          else if cue.hold = 0 then s.hasCompleted t p cue
          else (t.ctx p).activity = .running cue (.hold cue.hold)
            ∧ t.cells = s.cells ∧ t.reports = s.reports ++ [⟨p, .hold⟩]))

/-- A completed LINK_STEP read: an erased word is BLANK_CUE; a sixteenth step is LINK_DEPTH; a LINK record
hands on its pointer field; a VOID record moves to the next word, of which word 16383 has none; any other
word is BAD_RECORD. The port passes at once (R17, R22, R30, R33, R34). -/
def Obligations.LinkStepsAreExamined : Prop :=
  ∀ (s : State) (p : Ctx) (w steps : Nat) (pp : Bool),
    s.store.port = some (.fetch p .linkStep w true) →
    (s.ctx p).activity = .fetch ⟨w, .linkStep, steps⟩ pp →
    ∃ t, exec .linkStepReadComplete s = .next t
      ∧ s.portPasses t ∧ s.sameBesides t p ∧ t.cells = s.cells ∧ s.showsOutcome t p
      ∧ t.out = s.out ∧ t.mix = { s.mix with held := t.mix.held }
      ∧ (t.ctx p).activity =
          (let word := s.store.cells.word w
           let kind := word.toNat % 16
           let field : Half := BitVec.ofNat 16 (word.toNat / 65536)
           if word = 0xFFFFFFFF then .faulted .blankCue w
           else if kind ≠ 0 ∧ kind ≠ 2 then .faulted .badRecord w
           else if 15 ≤ steps then .faulted .linkDepth w
           else if kind = 2 then
             (if ptrEnd field then .idle
              else if ptrIndex field < 128 then .faulted .badPointer (ptrIndex field)
              else .fetch ⟨ptrIndex field, if ptrIndirect field then .linkStep else .probe,
                steps + 1⟩ pp)
           else if w = 16383 then .faulted .badRecord 16383
           else .fetch ⟨w + 1, .linkStep, steps + 1⟩ pp)

/-- A completed PROBE read: the five checks on the lead word, in order, each with its fault at word c; where
all pass, the lead word is kept and a read of the record's length from c is asked for, which does not reach
past word 16383. The port passes at once (R17, R25, R35). -/
def Obligations.ProbesAreChecked : Prop :=
  ∀ (s : State) (p : Ctx) (c steps : Nat) (pp : Bool),
    s.store.port = some (.fetch p .probe c true) →
    (s.ctx p).activity = .fetch ⟨c, .probe, steps⟩ pp →
    let lead := s.store.cells.word c
    let count := lead.toNat / 2048 % 32
    let length := 2 + (if lead.getLsbD 4 then 2 else 0) + (if lead.getLsbD 5 then 1 else 0)
      + (if lead.getLsbD 6 then 1 else 0) + (count + 1) / 2
    (∃ t, exec .probeReadComplete s = .next t
      ∧ s.portPasses t ∧ s.sameBesides t p ∧ t.cells = s.cells ∧ s.showsOutcome t p
      ∧ t.out = s.out ∧ t.mix = { s.mix with held := t.mix.held }
      ∧ (t.ctx p).activity =
          (if lead = 0xFFFFFFFF then .faulted .blankCue c
           else if lead.toNat % 16 ≠ 1 then .faulted .badRecord c
           else if 16 < count then .faulted .badRecord c
           else if lead.toNat / 65536 = 65535 then .faulted .badRecord c
           else if 16383 < c + length - 1 then .faulted .badRecord c
           else .fetch ⟨c, .record lead, steps⟩ pp))
    ∧ (ReadKind.record lead).count = length

/-- A decoded record gives the cue the fields of its words: the lead word, the second word, and the wait,
loop, post and level blocks that follow it in this order, each where its flag calls for it (R24 to R29,
R37). -/
def Obligations.DecodedCuesHoldTheirFields : Prop :=
  ∀ (c : Nat) (lead : Word) (words : List Word) (cue : Cue),
    words.length = (ReadKind.record lead).count → decodeRecord c lead words = .ok cue →
    let iLoop := 2 + (if lead.getLsbD 4 then 2 else 0)
    let iPost := iLoop + (if lead.getLsbD 5 then 1 else 0)
    let iLevels := iPost + (if lead.getLsbD 6 then 1 else 0)
    words[0]? = some lead ∧ lead ≠ 0xFFFFFFFF
    ∧ cue.word = c ∧ cue.fade = lead.toNat / 65536 ∧ cue.priority.val = lead.toNat / 256 % 8
    ∧ cue.releaseOthers = lead.getLsbD 7 ∧ cue.levels.length = lead.toNat / 2048 % 32
    ∧ (∃ w, words[1]? = some w ∧ cue.hold = w.toNat % 65536 ∧ cue.next.toNat = w.toNat / 65536)
    ∧ (if lead.getLsbD 4 then
        ∃ a b wait, words[2]? = some a ∧ words[3]? = some b ∧ cue.wait = some wait
          ∧ wait.event.val = a.toNat % 256 ∧ wait.timeout = a.toNat / 65536
          ∧ wait.pointer.toNat = b.toNat % 65536
       else cue.wait = none)
    ∧ (if lead.getLsbD 5 then
        ∃ a loop, words[iLoop]? = some a ∧ cue.loop = some loop
          ∧ loop.cell.val = a.toNat % 256 ∧ loop.reload.toNat = a.toNat / 256 % 256
          ∧ loop.pointer.toNat = a.toNat / 65536
       else cue.loop = none)
    ∧ (if lead.getLsbD 6 then
        ∃ a e, words[iPost]? = some a ∧ cue.post = some e ∧ e.val = a.toNat % 256
       else cue.post = none)
    ∧ (∀ k, k < cue.levels.length →
        ∃ w ch level, words[iLevels + k / 2]? = some w ∧ cue.levels[k]? = some (ch, level)
          ∧ ch.val = w.toNat / 65536 ^ (k % 2) % 256
          ∧ level.toNat = w.toNat / 65536 ^ (k % 2) / 256 % 256)

/-- A RECORD read faults on an erased first word, on a first word that is not the probed lead word, and on
an event id above 31, a counter cell above 15 or a channel above 15 in its blocks; in no other case, where
the read has the record's length (R36). The fault takes its context to FAULTED and makes no claim, no post
and no loop operation (R38), and the port passes at once (R17). A read whose context has withdrawn completes
with its words discarded (R19, R44). -/
def Obligations.RecordsAreChecked : Prop :=
  (∀ (c : Nat) (lead w0 : Word) (rest : List Word),
     rest.length + 1 = (ReadKind.record lead).count →
     let words := w0 :: rest
     let byte0 := fun i => (words.getD i 0).toNat % 256
     let iLoop := 2 + (if lead.getLsbD 4 then 2 else 0)
     let iPost := iLoop + (if lead.getLsbD 5 then 1 else 0)
     let iLevels := iPost + (if lead.getLsbD 6 then 1 else 0)
     (w0 = 0xFFFFFFFF → decodeRecord c lead words = .error .blankCue)
     ∧ (w0 ≠ 0xFFFFFFFF → w0 ≠ lead → decodeRecord c lead words = .error .badRecord)
     ∧ (w0 ≠ 0xFFFFFFFF → w0 = lead →
         ((∃ cue, decodeRecord c lead words = .ok cue)
           ↔ (lead.getLsbD 4 = true → byte0 2 ≤ 31) ∧ (lead.getLsbD 5 = true → byte0 iLoop ≤ 15)
             ∧ (lead.getLsbD 6 = true → byte0 iPost ≤ 31)
             ∧ ∀ k, k < lead.toNat / 2048 % 32 →
                 (words.getD (iLevels + k / 2) 0).toNat / 65536 ^ (k % 2) % 256 ≤ 15)
         ∧ ∀ reason, decodeRecord c lead words = .error reason → reason = .badRecord))
  ∧ (∀ (s : State) (p : Ctx) (c steps : Nat) (pp : Bool) (lead : Word) (reason : FaultReason),
       s.store.port = some (.fetch p (.record lead) c true) →
       (s.ctx p).activity = .fetch ⟨c, .record lead, steps⟩ pp →
       decodeRecord c lead (s.store.cells.words c (ReadKind.record lead).count) = .error reason →
       ∃ t, exec .recordReadComplete s = .next t ∧ (t.ctx p).activity = .faulted reason c
         ∧ s.portPasses t ∧ s.sameBesides t p ∧ s.showsOutcome t p ∧ t.cells = s.cells
         ∧ t.out = s.out
         ∧ t.mix = { s.mix with held := t.mix.held })
  ∧ (∀ (s : State) (p : Ctx) (kind : ReadKind) (w : Nat),
       s.store.port = some (.fetch p kind w false) →
       exec (match kind with
         | .linkStep => .linkStepReadComplete
         | .probe => .probeReadComplete
         | .record _ => .recordReadComplete) s
         = .next (State.arbitrate { s with store := { s.store with port := none } }))

/-- A RECORD read that decodes a cue starts it: the arrival set is emptied and takes the cue's own post, each
entry of the level list is a claim unless its channel is a secondary, flag X releases the context's other
claims, and the context enters FADE with the cue's fade, or PAUSED where pause-pending is set; a fade of 0
completes at once. The claims of one channel arrive one after another: a new claim starts at the present
level of the claim it replaces, or at the effective level, and takes the next stamp (renumbered at 65535
without the replaced claim, log 14). The port passes at once (R17, R45 to R47, R69, R79, R89 to R91). -/
def Obligations.DecodedCuesStart : Prop :=
  ∀ (s : State) (p : Ctx) (c steps : Nat) (pp : Bool) (lead : Word) (cue : Cue),
    s.store.port = some (.fetch p (.record lead) c true) →
    (s.ctx p).activity = .fetch ⟨c, .record lead, steps⟩ pp →
    decodeRecord c lead (s.store.cells.words c (ReadKind.record lead).count) = .ok cue →
    ∃ t, exec .recordReadComplete s = .next t
      ∧ s.portPasses t
      ∧ s.sameBesides { t with posts := s.posts,
                               mix := { t.mix with channels := s.mix.channels } } p
      ∧ (∀ ch who, who ≠ .ctx p →
          ((t.mixCh ch).claims.get who).map (fun v => { v with stamp := 0 })
            = ((s.mixCh ch).claims.get who).map (fun v => { v with stamp := 0 }))
      ∧ (∀ ch level, (s.mixCh ch).secondary = false →
          (cue.levels.filter fun e => e.1 == ch).getLast? = some (ch, level) →
          ∃ v, (t.mixCh ch).claims.get (.ctx p) = some v ∧ v.target = level
            ∧ v.total = cue.fade ∧ v.elapsed = 0 ∧ v.priority = cue.priority
            ∧ v.releasing = false ∧ v.present = (if cue.fade = 0 then level else v.start))
      ∧ (∀ ch, (s.mixCh ch).secondary = false → ch ∈ cue.levels.map Prod.fst →
          let arrived := (cue.levels.filter fun e => e.1 == ch).foldl
            (fun (c : MixChannel) e => c.arrive (.ctx p) e.2 cue.fade cue.priority) (s.mixCh ch)
          (t.mixCh ch).claims = arrived.claims
          ∧ (t.mixCh ch).stampCounter = arrived.stampCounter)
      ∧ (∀ ch level, (s.mixCh ch).secondary = false →
          (cue.levels.filter fun e => e.1 == ch) = [(ch, level)] →
          let others := ([Claimant.ctx 0, .ctx 1, .ctx 2, .ctx 3, .link].filter
            (· ≠ Claimant.ctx p)).filterMap ((s.mixCh ch).claims.get ·)
          let start := match (s.mixCh ch).claims.get (.ctx p) with
            | some old => old.present
            | none => (s.mixCh ch).level
          let renumber := (s.mixCh ch).stampCounter = 65535
          let counter := if renumber then others.length else (s.mixCh ch).stampCounter
          (t.mixCh ch).claims.get (.ctx p) = some
            { present := if cue.fade = 0 then level else start, start := start, target := level,
              total := cue.fade, elapsed := 0, priority := cue.priority, stamp := counter + 1,
              releasing := false }
          ∧ (t.mixCh ch).stampCounter = counter + 1
          ∧ ∀ who, who ≠ .ctx p → (t.mixCh ch).claims.get who =
              ((s.mixCh ch).claims.get who).map fun v =>
                if renumber then
                  { v with stamp := (others.filter fun w => w.stamp ≤ v.stamp).length }
                else v)
      ∧ (∀ ch, ch ∉ cue.levels.map Prod.fst →
          (t.mixCh ch).stampCounter = (s.mixCh ch).stampCounter
          ∧ ∀ who, who ≠ .ctx p → (t.mixCh ch).claims.get who = (s.mixCh ch).claims.get who)
      ∧ (∀ ch, (s.mixCh ch).secondary = true → ch ∈ cue.levels.map Prod.fst →
          (t.mixCh ch).claims = (s.mixCh ch).claims)
      ∧ (∀ ch, ch ∉ cue.levels.map Prod.fst →
          (t.mixCh ch).claims.get (.ctx p) =
            match (s.mixCh ch).claims.get (.ctx p) with
            | none => none
            | some v => if cue.releaseOthers = false ∨ v.releasing = true then some v
                        else v.release cue.fade)
      ∧ t.posts = s.posts ++ (match cue.post with
          | none => []
          | some e => ([0, 1, 2, 3].filter fun q : Ctx => q ≠ p).map fun q => (q, e))
      ∧ ((pp = true ∨ cue.fade ≠ 0) →
          (t.ctx p).activity = (if pp then .paused cue (.fade cue.fade)
                                else .running cue (.fade cue.fade))
          ∧ (t.ctx p).current = some c
          ∧ (t.ctx p).arrivals = (match cue.post with | none => 0 | some e => 1#32 <<< e.val)
          ∧ t.mix.held = (if pp then s.mix.held ||| ctxBit p else s.mix.held)
          ∧ t.link = (if (s.ctx p).report then s.notify (.cueStarted p c pp) else s).link
          ∧ t.reports = s.reports ++ [⟨p, if pp then .paused else .fade⟩]
          ∧ t.cells = s.cells)
      ∧ (pp = false → cue.fade = 0 →
          let started : Context :=
            { s.ctx p with
              activity := .running cue (.fade 0)
              current := some c
              arrivals := match cue.post with | none => 0 | some e => 1#32 <<< e.val }
          let u : State :=
            { s with
              store := { s.store with port := none }
              contexts := s.contexts.set p started
              mix := { t.mix with held := s.mix.held }
              out := t.out
              posts := t.posts
              link := (if (s.ctx p).report then s.notify (.cueStarted p c false) else s).link
              reports := s.reports ++ [⟨p, .fade⟩] }
          t = (u.completeFade p cue).arbitrate)

/-- POST_EVENT hands the event to all four contexts, and SET_COUNTER sets its cell; a number out of range is
refused BAD_FIELD (R80, R85). A post that reaches a context is added to its arrival set; a wait for it is
satisfied, and the cue then completes normally; in every other phase nothing else changes (R72, R76). -/
def Obligations.PostsAndCounters : Prop :=
  (∀ (s : State) (n value : Byte), s.accepts →
     (∀ e : EventId, n.toNat = e.val → exec (.postEvent n) s = .next
       { s.ack (.postEvent n) with posts := s.posts ++ [(0, e), (1, e), (2, e), (3, e)] })
     ∧ (31 < n.toNat → exec (.postEvent n) s = .next (s.refuse (.postEvent n) .badField))
     ∧ (∀ k : Fin 16, n.toNat = k.val → exec (.setCounter n value) s = .next
       { s.ack (.setCounter n value) with cells := s.cells.set k value })
     ∧ (15 < n.toNat →
       exec (.setCounter n value) s = .next (s.refuse (.setCounter n value) .badField)))
  ∧ (∀ (s : State) (p : Ctx) (e : EventId), (p, e) ∈ s.posts →
       ∃ t, exec (.post p e) s = .next t
         ∧ t.posts = s.posts.erase (p, e) ∧ s.sameBesides { t with posts := s.posts } p
         ∧ (∀ k : EventId, (t.ctx p).arrivals.getLsbD k.val
             = ((s.ctx p).arrivals.getLsbD k.val || k == e))
         ∧ (match (s.ctx p).activity with
             | .running cue (.wait (.event id _ _)) =>
               if id = e then s.hasCompleted t p cue
               else (t.ctx p).activity = (s.ctx p).activity ∧ t.cells = s.cells
                 ∧ t.reports = s.reports ∧ t.link = s.link
             | _ => (t.ctx p).activity = (s.ctx p).activity ∧ t.cells = s.cells
                 ∧ t.reports = s.reports ∧ t.link = s.link))

/-- A tick at the playback engine is taken by every context that has not taken it: a count above 1 is
lowered by one, and a context that counts nothing stays as it is; a count that ends does so after the others
are lowered, a fade going on as the cue says, a hold with a normal completion, a wait to its timeout pointer
field, in any order of the contexts (R48, R49, R50, R53, R77, R84; which contexts have taken the tick ahead,
log 7; the order is open, log 9). -/
def Obligations.TickLowersTheCounts : Prop :=
  ∀ s : State, 0 < s.owed.play →
    ∃ t, exec .tickArrivalPlay s = .next t
      ∧ t.owed = { s.owed with play := s.owed.play - 1, taken := 0 }
      ∧ (∀ p, ctxIn p s.owed.taken = true → t.ctx p = s.ctx p)
      ∧ (∀ p, ctxIn p s.owed.taken = false →
          match (s.ctx p).activity with
          | .running cue (.fade n) => 1 < n →
              t.ctx p = { s.ctx p with activity := .running cue (.fade (n - 1)) }
          | .running cue (.hold n) => 1 < n →
              t.ctx p = { s.ctx p with activity := .running cue (.hold (n - 1)) }
          | .running cue (.wait (.event e n f)) => n ≠ 1 →
              t.ctx p = { s.ctx p with activity := .running cue (.wait (.event e (n - 1) f)) }
          | _ => t.ctx p = s.ctx p)
      ∧ ((∀ p, (s.ctx p).lastTick = false) →
          t.cells = s.cells ∧ t.link = s.link ∧ t.store = s.store ∧ t.reports = s.reports
          ∧ t.mix = s.mix ∧ t.out = s.out ∧ t.trig = s.trig)
      ∧ (let ends := fun p : Ctx => !ctxIn p s.owed.taken && (match (s.ctx p).activity with
           | .running _ (.fade n) => decide (n ≤ 1)
           | .running _ (.hold n) => decide (n ≤ 1)
           | .running _ (.wait (.event _ n _)) => decide (n = 1)
           | _ => false)
         let lowered := fun p : Ctx =>
           if ctxIn p s.owed.taken || ends p then s.ctx p
           else match (s.ctx p).activity with
             | .running cue (.fade n) => { s.ctx p with activity := .running cue (.fade (n - 1)) }
             | .running cue (.hold n) => { s.ctx p with activity := .running cue (.hold (n - 1)) }
             | .running cue (.wait (.event e n f)) =>
                 { s.ctx p with activity := .running cue (.wait (.event e (n - 1) f)) }
             | _ => s.ctx p
         let finish := fun (u : State) (p : Ctx) => match (s.ctx p).activity with
           | .running cue (.fade _) => u.completeFade p cue
           | .running cue (.hold _) => u.completeNormally p cue
           | .running _ (.wait (.event _ _ f)) => u.enterFetch p f
           | _ => u
         ∃ (order : List Ctx) (n : Nat), order.Perm (([0, 1, 2, 3] : List Ctx).filter ends)
           ∧ t = { order.foldl finish { s with contexts := Vector.ofFn lowered, free := n } with
                   owed := { s.owed with play := s.owed.play - 1, taken := 0 } })

/-- The tick with which a count of a context ends: the fade completes, the hold expires with a normal
completion, or the wait times out and its timeout pointer field is followed with no loop operation (R48 to
R53, R77). That this context takes the tick ahead of the others is the model's choice (log 7). -/
def Obligations.CountsEnd : Prop :=
  ∀ (s : State) (p : Ctx), 0 < s.owed.play → ctxIn p s.owed.taken = false →
    (∀ cue, (s.ctx p).activity = .running cue (.fade 1) →
      exec (.fadeComplete p) s = .next
        { s.completeFade p cue with
          owed := { s.owed with taken := s.owed.taken ||| ctxBit p } })
    ∧ (∀ cue, (s.ctx p).activity = .running cue (.hold 1) →
      exec (.holdExpiry p) s = .next
        { s.completeNormally p cue with
          owed := { s.owed with taken := s.owed.taken ||| ctxBit p } })
    ∧ (∀ cue e f, (s.ctx p).activity = .running cue (.wait (.event e 1 f)) →
      exec (.waitTimeout p) s = .next
        { s.enterFetch p f with
          owed := { s.owed with taken := s.owed.taken ||| ctxBit p } })

/-! ### The Channel Mixer (R88 to R92, R96 to R98, R103, R104) -/

/-- SET_LEVEL makes a new LINK claim that starts at its old claim's present level, or at the channel's
effective level; with the stamp counter at 65535 the other claims are first renumbered in the order of their
stamps (their number without the replaced claim, log 14) (R89, R91, R103). RELEASE_LEVEL fades the LINK claim
from its present level to 0 over the fade, or removes it with a fade of 0, and does nothing where there is
none (R92, R104). Both are refused SLAVED on a secondary, and BAD_FIELD out of range. -/
def Obligations.HostClaims : Prop :=
  (∀ (s : State) (n level priority : Byte) (fade : Half), s.accepts →
     let r := Request.setLevel n level fade priority
     (15 < n.toNat ∨ 7 < priority.toNat ∨ fade.toNat = 65535 →
       exec (.setLevel n level fade priority) s = .next (s.refuse r .badField))
     ∧ (∀ (ch : Chan) (prio : Fin 8), n.toNat = ch.val → priority.toNat = prio.val →
         fade.toNat ≠ 65535 →
         if (s.mixCh ch).secondary = true then
           exec (.setLevel n level fade priority) s = .next (s.refuse r .slaved)
         else
           ∃ t, exec (.setLevel n level fade priority) s = .next t
             ∧ { t with link := s.link, mix := s.mix, out := s.out } = s
             ∧ t.link = (s.ack r).link ∧ t.mix.held = s.mix.held ∧ t.mix.curves = s.mix.curves
             ∧ (∀ k, k ≠ ch → t.mixCh k = s.mixCh k ∧ t.outCh k = s.outCh k)
             ∧ (s.outCh ch).sameButDuty (t.outCh ch)
             ∧ (let others := [Claimant.ctx 0, .ctx 1, .ctx 2, .ctx 3].filterMap
                  ((s.mixCh ch).claims.get ·)
                let start := match (s.mixCh ch).claims.get .link with
                  | some old => old.present
                  | none => (s.mixCh ch).level
                let renumber := (s.mixCh ch).stampCounter = 65535
                let counter := if renumber then others.length else (s.mixCh ch).stampCounter
                (t.mixCh ch).claims.get .link = some
                  { present := if fade.toNat = 0 then level else start, start := start,
                    target := level, total := fade.toNat, elapsed := 0, priority := prio,
                    stamp := counter + 1, releasing := false }
                ∧ (t.mixCh ch).stampCounter = counter + 1
                ∧ ∀ p : Ctx, (t.mixCh ch).claims.get (.ctx p) =
                    ((s.mixCh ch).claims.get (.ctx p)).map fun v =>
                      if renumber then
                        { v with stamp := (others.filter fun w => w.stamp ≤ v.stamp).length }
                      else v)))
  ∧ (∀ (s : State) (n : Byte) (fade : Half), s.accepts →
       let r := Request.releaseLevel n fade
       (15 < n.toNat ∨ fade.toNat = 65535 →
         exec (.releaseLevel n fade) s = .next (s.refuse r .badField))
       ∧ (∀ ch : Chan, n.toNat = ch.val → fade.toNat ≠ 65535 →
           if (s.mixCh ch).secondary = true then
             exec (.releaseLevel n fade) s = .next (s.refuse r .slaved)
           else
             ∃ t, exec (.releaseLevel n fade) s = .next t
               ∧ { t with link := s.link, mix := s.mix, out := s.out } = s
               ∧ t.link = (s.ack r).link ∧ t.mix.held = s.mix.held ∧ t.mix.curves = s.mix.curves
               ∧ (∀ k, k ≠ ch → t.mixCh k = s.mixCh k ∧ t.outCh k = s.outCh k)
               ∧ (s.outCh ch).sameButDuty (t.outCh ch)
               ∧ (t.mixCh ch).stampCounter = (s.mixCh ch).stampCounter
               ∧ (∀ p : Ctx,
                   (t.mixCh ch).claims.get (.ctx p) = (s.mixCh ch).claims.get (.ctx p))
               ∧ (t.mixCh ch).claims.get .link = (match (s.mixCh ch).claims.get .link with
                   | none => none
                   | some v =>
                     if fade.toNat = 0 then none
                     else some { v with start := v.present, target := 0, total := fade.toNat,
                                        elapsed := 0, releasing := true })
               ∧ ((s.mixCh ch).claims.get .link = none → t = s.ack r)))

/-- The level of a fade: start plus (target less start) times elapsed over total, the quotient truncated
toward zero, so that a rising fade lags from below and a falling one from above; at the last tick it is the
target (R96). -/
def Obligations.FadeArithmetic : Prop :=
  ∀ (start target : Byte) (elapsed total : Nat), 0 < total → elapsed ≤ total →
    (start.toNat ≤ target.toNat →
      (fadeLevel start target elapsed total).toNat
        = start.toNat + (target.toNat - start.toNat) * elapsed / total)
    ∧ (target.toNat ≤ start.toNat →
      (fadeLevel start target elapsed total).toNat
        = start.toNat - (start.toNat - target.toNat) * elapsed / total)
    ∧ fadeLevel start target total total = target

/-- A tick at the mixer advances every claim that is neither settled nor held, and removes a releasing claim
that settles; a context in RELEASING whose last claim goes with it enters IDLE with the way RELEASED, its
report and, where its report flag is on, its CONTEXT_IDLE notice, and the other contexts stay as they are
(R62, R63, R94, R95, R96; several contexts in any order, log 9). The tick with which a named release fade ends
is such a tick; that its context is told first is the model's choice (log 8). -/
def Obligations.TickAdvancesTheClaims : Prop :=
  (∀ s : State, 0 < s.owed.mix →
     ∃ t, exec .tickArrivalMix s = .next t
       ∧ t.owed = { s.owed with mix := s.owed.mix - 1 }
       ∧ (∀ ch who, (t.mixCh ch).claims.get who =
           match (s.mixCh ch).claims.get who with
           | none => none
           | some c =>
             if c.elapsed = c.total then some c
             else if (match who with | .ctx p => ctxIn p s.mix.held | .link => false) then some c
             else if c.elapsed + 1 = c.total then
               (if c.releasing then none
                else some { c with elapsed := c.total, present := c.target })
             else some { c with elapsed := c.elapsed + 1,
                                present := fadeLevel c.start c.target (c.elapsed + 1) c.total })
       ∧ (∀ p, t.ctx p = if (s.ctx p).activity = .releasing ∧ s.mix.holdsClaim p = true
             ∧ t.mix.holdsClaim p = false then
           { s.ctx p with activity := .idle, current := none } else s.ctx p)
       ∧ (∃ order, s.showsGone t s order)
       ∧ t.store = s.store ∧ t.cells = s.cells ∧ t.trig = s.trig ∧ t.clk = s.clk
       ∧ t.posts = s.posts ∧ t.mix.held = s.mix.held ∧ t.mix.curves = s.mix.curves
       ∧ t.out.sources = s.out.sources ∧ s.sameConfig t
       ∧ (∀ ch, (s.outCh ch).sameButDuty (t.outCh ch)
           ∧ (t.mixCh ch).stampCounter = (s.mixCh ch).stampCounter))
  ∧ (∀ (s : State) (ch : Chan) (who : Claimant) (c : Claim), 0 < s.owed.mix →
       (s.mixCh ch).claims.get who = some c → c.releasing = true → c.elapsed + 1 = c.total →
       s.mix.isHeld who = false →
       ∃ t u, exec (.releaseFadeEnd ch who) s = .next t ∧ exec .tickArrivalMix s = .next u
         ∧ (t.mixCh ch).claims.get who = none
         ∧ (∃ order, s.showsGone t s order
             ∧ ∀ p ∈ s.leaving t, who = .ctx p → order.head? = some p)
         ∧ t.mix = u.mix ∧ t.out = u.out ∧ t.owed = u.owed ∧ t.contexts = u.contexts
         ∧ t.store = u.store ∧ t.cells = u.cells ∧ t.trig = u.trig ∧ t.clk = u.clk
         ∧ t.posts = u.posts)

/-- The selected claim under PRIORITY, and the effective level: the greatest of the selected claim's present
level and those of releasing claims of higher priority; the greatest present level where every claim is
releasing; 0 for an empty set. Under HTP the greatest present level of all (R97, R98). -/
def Obligations.LevelsAreArbitrated : Prop :=
  ∀ cs : ClaimSet,
    (∀ who sel, selectClaim cs.list = some (who, sel) →
      cs.get who = some sel ∧ sel.releasing = false
      ∧ (∀ w c, cs.get w = some c → c.releasing = false →
          c.priority < sel.priority ∨ c.priority = sel.priority ∧ c.stamp ≤ sel.stamp)
      ∧ (∀ w c, cs.get w = some c →
          (c = sel ∨ c.releasing = true ∧ sel.priority < c.priority) →
          c.present.toNat ≤ (cs.level .priority).toNat)
      ∧ ∃ w c, cs.get w = some c ∧ (c = sel ∨ c.releasing = true ∧ sel.priority < c.priority)
          ∧ cs.level .priority = c.present)
    ∧ (selectClaim cs.list = none ↔ ∀ w c, cs.get w = some c → c.releasing = true)
    ∧ (selectClaim cs.list = none → cs.level .priority = cs.level .htp)
    ∧ (∀ w c, cs.get w = some c → c.present.toNat ≤ (cs.level .htp).toNat)
    ∧ ((∀ w, cs.get w = none) → cs.level .htp = 0 ∧ cs.level .priority = 0)
    ∧ ((∃ w c, cs.get w = some c) → ∃ w c, cs.get w = some c ∧ cs.level .htp = c.present)

/-! ### The Output Stage (R110 to R125) -/

/-- The on-time is the period's length times the duty over 65535, truncated; in SINGLE mode outside SHUTDOWN
the pin is active from the period start for the on-time (R111). In a period of a formed pair the even pin is
active from d until t and the odd pin from t + d until the period's end; a pulse that leaves no room beside
the dead time is suppressed, a dead time of 0 makes the odd pin the exact complement, and the two pins are
never active together (R116). -/
def Obligations.PinsFollowTheDuty : Prop :=
  ((∀ (code : Fin 4) (duty : Half),
       onTime code duty = (match code with | 0 => 64000 | 1 => 16000 | 2 => 4000 | 3 => 800)
         * duty.toNat / 65535
       ∧ onTime code 0 = 0 ∧ onTime code 0xFFFF = periodUnits code)
   ∧ (∀ (s : State) (ch : Chan) (u : Nat), s.isRunning = true → (s.outCh ch).paired = false →
       (s.outCh ch).shutdown = false → (s.outCh ch).active.mode = .single →
       s.pinActive ch u = decide (u < onTime (s.outCh ch).active.period (s.outCh ch).active.duty))
   ∧ (∀ duty : Half, duty.toNat < 82 → onTime 3 duty = 0))
  ∧ (∀ (s : State) (even : Chan), s.isRunning = true → s.pairsSound → isOdd even = false →
       (s.outCh even).active.mode = .pair → (s.outCh even).shutdown = false →
       let odd := oddPartner even
       let a := (s.outCh even).active
       let T := periodUnits a.period
       let t := onTime a.period a.duty
       let d := a.deadTime.toNat
       (∀ u, u < T →
         (s.pinActive even u = true ↔ d ≤ u ∧ u < t)
         ∧ (s.pinActive odd u = true ↔ t + d ≤ u)
         ∧ ¬(s.pinActive even u = true ∧ s.pinActive odd u = true)
         ∧ (t ≤ d → s.pinActive even u = false)
         ∧ (T - t ≤ d → s.pinActive odd u = false)
         ∧ (d = 0 → s.pinActive odd u = !s.pinActive even u)))

/-- CONFIG_CHANNEL: mode, period code and dead time go to the buffered values, the safe state and the mask
take effect at once, and a channel whose new mask names an asserted source enters SHUTDOWN; the mixer takes
arbitration and curve at once; PAIR on an even channel makes its partner a secondary with no claims, any
other mode ends that; a context in RELEASING whose last claim goes with the pairing enters IDLE, with its
report and its CONTEXT_IDLE notice behind the ACK (R62, R63, R95, R106, R107, R114, R123; several contexts in
any order, log 9). -/
def Obligations.ConfigChannelTakesEffect : Prop :=
  ∀ (s : State) (n : Byte) (ch : Chan) (e : ChannelEntry) (cfg : ChannelConfig), s.accepts →
    n.toNat = ch.val → ChannelEntry.config e ch = some cfg →
    let r := Request.configChannel n e
    ∃ t, exec (.configChannel n e) s = .next t
      ∧ (t.outCh ch).buffered.mode = cfg.mode ∧ (t.outCh ch).buffered.period = cfg.period
      ∧ (t.outCh ch).buffered.deadTime = cfg.deadTime
      ∧ (t.outCh ch).active = (s.outCh ch).active ∧ (t.outCh ch).paired = (s.outCh ch).paired
      ∧ (t.outCh ch).safe = cfg.safe ∧ (t.outCh ch).mask = cfg.mask
      ∧ (t.outCh ch).shutdown = ((s.outCh ch).shutdown
          || (List.finRange 2).any fun k => cfg.mask.getLsbD k.val && (s.out.sources[k]).asserted)
      ∧ (∀ k, k ≠ ch → (s.outCh k).sameButDuty (t.outCh k))
      ∧ t.out.sources = s.out.sources
      ∧ (t.mixCh ch).arbitration = cfg.arbitration ∧ (t.mixCh ch).curve = cfg.curve
      ∧ (t.mixCh ch).claims = (s.mixCh ch).claims
      ∧ ((s.mixCh ch).secondary = false →
          (t.mixCh ch).level = (s.mixCh ch).claims.level cfg.arbitration)
      ∧ (isOdd ch = true → (t.mixCh ch).secondary = (s.mixCh ch).secondary)
      ∧ (isOdd ch = false → (t.mixCh ch).secondary = (s.mixCh ch).secondary
          ∧ (t.mixCh (oddPartner ch)).secondary = (cfg.mode == .pair)
          ∧ (cfg.mode = .pair → (s.mixCh (oddPartner ch)).secondary = false →
              (t.mixCh (oddPartner ch)).claims = .empty ∧ (t.mixCh (oddPartner ch)).level = 0
              ∧ (t.outCh (oddPartner ch)).buffered = (s.outCh (oddPartner ch)).buffered)
          ∧ (cfg.mode = .pair → (s.mixCh (oddPartner ch)).secondary = true →
              t.mixCh (oddPartner ch) = s.mixCh (oddPartner ch))
          ∧ (cfg.mode ≠ .pair → (s.mixCh (oddPartner ch)).secondary = true →
              (t.mixCh (oddPartner ch)).level = 0
              ∧ (t.outCh (oddPartner ch)).buffered.duty
                  = s.mix.duty (s.mixCh (oddPartner ch)).curve 0))
      ∧ (∀ p, (s.ctx p).phase ≠ .releasing → t.ctx p = s.ctx p)
      ∧ (∃ order, s.showsGone t (s.ack r) order)
      ∧ t.store = s.store ∧ t.trig = s.trig ∧ t.clk = s.clk ∧ t.cells = s.cells
      ∧ t.mix.held = s.mix.held ∧ t.mix.curves = s.mix.curves
      ∧ (∃ l, t.link.outbound = s.link.outbound ++ .reply (.ack r.kind) :: l)
      ∧ t.link.service = none

/-- The entries that CONFIG_CHANNEL, CONFIG_GROUP, CONFIG_TRIGGER and CONFIG_MATCHER refuse with BAD_FIELD,
case by case (R114, R131, R142, R151); what an accepted entry holds, field by field, by the codes and bits of
its bytes; and the bytes at which each field of an entry lies (sections 11.2.1, 11.7.1 to 11.7.4). -/
def Obligations.ConfigurationEntriesAreChecked : Prop :=
  (∀ (e : ChannelEntry) (ch : Chan), ChannelEntry.config e ch = none ↔
      2 < e.mode.toNat ∨ 3 < e.period.toNat ∨ 1 < e.safe.toNat ∨ 3 < e.mask.toNat
      ∨ 1 < e.arbitration.toNat ∨ 3 < e.curve.toNat ∨ (e.mode.toNat = 2 ∧ isOdd ch = true))
  ∧ (∀ e : GroupEntry, GroupEntry.config e = none ↔ 15 < e.filter.toNat)
  ∧ (∀ e : TriggerEntry, TriggerEntry.config e = none ↔
      3 < e.action.toNat
      ∨ (e.flags.getLsbD 2 = true ∧ e.action.toNat ≠ 0)
      ∨ (e.flags.getLsbD 3 = true ∧ e.action.toNat ≠ 0)
      ∨ (e.targets.toNat % 16 = 0 ∧ e.action.toNat < 3)
      ∨ (e.action.toNat = 1 ∧ e.fade.toNat = 65535)
      ∨ (e.flags.getLsbD 2 = true ∧ e.flags.getLsbD 4 = true ∧ ptrEnd e.pointer = true))
  ∧ (∀ e : MatcherEntry, MatcherEntry.config e = none ↔
      e.stepCount.toNat = 0 ∨ 8 < e.stepCount.toNat
      ∨ (∃ i : Fin 8, i.val < e.stepCount.toNat ∧ 23 < e.steps[i].toNat % 128)
      ∨ e.gap.toNat = 0 ∨ 3 < e.action.toNat
      ∨ (e.flags.getLsbD 3 = true ∧ e.action.toNat ≠ 0)
      ∨ (e.targets.toNat % 16 = 0 ∧ e.action.toNat < 3)
      ∨ (e.action.toNat = 1 ∧ e.fade.toNat = 65535))
  ∧ (∀ (s : State) (n : Byte) (ce : ChannelEntry) (ge : GroupEntry) (te : TriggerEntry)
        (me : MatcherEntry), s.accepts →
      (15 < n.toNat ∨ (∃ ch : Chan, n.toNat = ch.val ∧ ChannelEntry.config ce ch = none) →
        exec (.configChannel n ce) s = .next (s.refuse (.configChannel n ce) .badField))
      ∧ (2 < n.toNat ∨ GroupEntry.config ge = none →
        exec (.configGroup n ge) s = .next (s.refuse (.configGroup n ge) .badField))
      ∧ (23 < n.toNat ∨ TriggerEntry.config te = none →
        exec (.configTrigger n te) s = .next (s.refuse (.configTrigger n te) .badField))
      ∧ (1 < n.toNat ∨ MatcherEntry.config me = none →
        exec (.configMatcher n me) s = .next (s.refuse (.configMatcher n me) .badField)))
  ∧ (let fires := fun (f : Firing) (flags action targets : Byte) (pointer fade expiry : Half) =>
       (match f.action with | .go => 0 | .release => 1 | .stop => 2 | .event => 3) = action.toNat
       ∧ (f.mode = .firstIdle ↔ flags.getLsbD 3 = true)
       ∧ (∀ p : Ctx, ctxIn p f.targets = targets.getLsbD p.val)
       ∧ f.pointer = (if flags.getLsbD 4 then some pointer else none)
       ∧ f.fade = fade ∧ f.expiry = expiry
     (∀ (e : ChannelEntry) (ch : Chan) (cfg : ChannelConfig), ChannelEntry.config e ch = some cfg →
       (match cfg.mode with | .off => 0 | .single => 1 | .pair => 2) = e.mode.toNat
       ∧ cfg.period.val = e.period.toNat ∧ cfg.deadTime = e.deadTime
       ∧ (if cfg.safe then 1 else 0) = e.safe.toNat
       ∧ (∀ k : Fin 2, cfg.mask.getLsbD k.val = e.mask.getLsbD k.val)
       ∧ (match cfg.arbitration with | .htp => 0 | .priority => 1) = e.arbitration.toNat
       ∧ cfg.curve.val = e.curve.toNat)
     ∧ (∀ (e : GroupEntry) (g : Group), GroupEntry.config e = some g →
       g.enable = e.enable.getLsbD 0 ∧ g.report = e.report.getLsbD 0
       ∧ g.filter = e.filter.toNat)
     ∧ (∀ (e : TriggerEntry) (cfg : TriggerConfig), TriggerEntry.config e = some cfg →
       cfg.enabled = e.flags.getLsbD 0 ∧ cfg.activeLow = e.flags.getLsbD 1
       ∧ (cfg.sense = .level ↔ e.flags.getLsbD 2 = true)
       ∧ fires cfg.firing e.flags e.action e.targets e.pointer e.fade e.expiry)
     ∧ (∀ (e : MatcherEntry) (cfg : MatcherConfig), MatcherEntry.config e = some cfg →
       cfg.enabled = e.flags.getLsbD 0 ∧ cfg.stepCount = e.stepCount.toNat
       ∧ cfg.steps = e.steps ∧ cfg.gap = e.gap.toNat
       ∧ fires cfg.firing e.flags e.action e.targets e.pointer e.fade e.expiry))
  ∧ (∀ (byte : Nat → Byte) (n : Nat),
       let half := fun k => BitVec.ofNat 16 ((byte (n + k)).toNat + 256 * (byte (n + k + 1)).toNat)
       ChannelEntry.at byte n =
         { mode := byte n, period := byte (n + 1), deadTime := byte (n + 2), safe := byte (n + 3)
           mask := byte (n + 4), arbitration := byte (n + 5), curve := byte (n + 6) }
       ∧ GroupEntry.at byte n = { enable := byte n, report := byte (n + 1), filter := byte (n + 2) }
       ∧ TriggerEntry.at byte n =
         { flags := byte n, action := byte (n + 1), targets := byte (n + 2)
           pointer := half 4, fade := half 6, expiry := half 8 }
       ∧ MatcherEntry.at byte n =
         { flags := byte n, action := byte (n + 1), targets := byte (n + 2)
           stepCount := byte (n + 3)
           steps := Vector.ofFn fun i : Fin 8 => byte (n + 4 + i.val)
           gap := half 12, pointer := half 14, fade := half 16, expiry := half 18 })

/-- A fault source that takes a new record: where its asserted state changes, an assertion takes every
channel whose mask names it to SHUTDOWN, a deassertion moves no pin, and a FAULT notice with those channels
is queued; otherwise only the record changes (R119 to R122). An input change takes the new level, and sets
the latch in LATCH mode when it goes active (R118, R119); CLEAR_FAULT clears a latch and is refused
FAULT_ACTIVE while the input is active (R124); CONFIG_FAULT changes the mode, a set latch being dropped in
FOLLOW and an active input latched in LATCH (R125). -/
def Obligations.FaultSourcesAct : Prop :=
  (∀ (s : State) (k : Fin 2) (f : FaultSource),
     let t := s.setSource k f
     (f.asserted = true ↔ (match f.mode with | .latch => f.latch | .follow => f.input) = true)
     ∧ t.out.sources = s.out.sources.set k f ∧ { t with out := s.out, link := s.link } = s
     ∧ (∀ ch, t.outCh ch = { s.outCh ch with shutdown := (s.outCh ch).shutdown
         || ((s.outCh ch).mask.getLsbD k.val && f.asserted && !(s.out.sources[k]).asserted) })
     ∧ (f.asserted = (s.out.sources[k]).asserted → t.link = s.link)
     ∧ (f.asserted ≠ (s.out.sources[k]).asserted →
         ∃ chans : BitVec 16, t.link = (s.notify (.fault k f.asserted chans)).link
           ∧ ∀ ch : Chan, chans.getLsbD ch.val = (s.outCh ch).mask.getLsbD k.val))
  ∧ (∀ (s : State) (k : Fin 2),
       let f := s.out.sources[k]
       (∀ active : Bool, s.isRunning = true → f.input ≠ active →
         exec (.faultInputChange k active) s = .next (s.setSource k
           { f with input := active, latch := f.latch || (f.mode == .latch && active) }))
       ∧ (∀ n mode : Byte, s.accepts → n.toNat = k.val →
         exec (.clearFault n) s = .next
           (if f.input then s.refuse (.clearFault n) .faultActive
            else (s.ack (.clearFault n)).setSource k
              { f with latch := f.latch && f.mode != .latch })
         ∧ (mode.toNat ≤ 1 → exec (.configFault n mode) s = .next
             ((s.ack (.configFault n mode)).setSource k
               (if mode.toNat = 1 then
                  (if f.mode = .follow then f else { f with mode := .follow, latch := false })
                else
                  (if f.mode = .latch then f else { f with mode := .latch, latch := f.input }))))
         ∧ (1 < mode.toNat →
             exec (.configFault n mode) s = .next (s.refuse (.configFault n mode) .badField)))
       ∧ (∀ n mode : Byte, s.accepts → 1 < n.toNat →
         exec (.clearFault n) s = .next (s.refuse (.clearFault n) .badField)
         ∧ exec (.configFault n mode) s = .next (s.refuse (.configFault n mode) .badField)))

/-- At a channel's period start the buffered values become active, and a SHUTDOWN ends where no source in
its mask is asserted; PAIR on an even channel sets its partner's paired mark; another mode clears it, and the
partner begins a period of its own (R110, R115, R117, R122). In SHUTDOWN a pin shows its safe state in OFF and
SINGLE, and both pins of a formed pair are inactive; in OFF outside SHUTDOWN the pin is inactive (R112,
R121). In a reset and in STARTING every pin is inactive (R126, R171). -/
def Obligations.PeriodsAndShutdown : Prop :=
  (∀ (s : State) (ch : Chan), s.isRunning = true → (s.outCh ch).paired = false →
     ∃ t, exec (.periodStart ch) s = .next t
       ∧ { t with out := s.out } = s ∧ t.out.sources = s.out.sources
       ∧ (let stays := fun c : OutChannel => c.shutdown && (List.finRange 2).any
            fun k => c.mask.getLsbD k.val && (s.out.sources[k]).asserted
          t.outCh ch = { s.outCh ch with active := (s.outCh ch).buffered,
                                         shutdown := stays (s.outCh ch) }
          ∧ (∀ k, k ≠ ch → (isOdd ch = true ∨ k ≠ oddPartner ch) → t.outCh k = s.outCh k)
          ∧ (isOdd ch = false →
              let o := s.outCh (oddPartner ch)
              t.outCh (oddPartner ch) =
                if (s.outCh ch).buffered.mode = .pair then { o with paired := true }
                else if o.paired then { o with paired := false, active := o.buffered,
                                               shutdown := stays o }
                else o)))
  ∧ (∀ (s : State) (ch : Chan) (u : Nat), s.isRunning = true → s.pairsSound →
       ((s.outCh ch).paired = false → (s.outCh ch).active.mode ≠ .pair →
         (s.outCh ch).shutdown = true → s.pinActive ch u = (s.outCh ch).safe)
       ∧ ((s.outCh ch).paired = false → (s.outCh ch).active.mode = .off →
         (s.outCh ch).shutdown = false → s.pinActive ch u = false)
       ∧ (isOdd ch = false → (s.outCh ch).active.mode = .pair → (s.outCh ch).shutdown = true →
         s.pinActive ch u = false ∧ s.pinActive (oddPartner ch) u = false))
  ∧ (∀ (s : State) (ch : Chan) (u : Nat), s.isRunning = false → s.pinActive ch u = false)

/-! ### The Input and Trigger Unit (R127 to R162, R198) -/

/-- A sample of a line: equal to the filtered level it clears the run count; different, it raises it, and
the sample that makes it f + 1 is an accepted change, a step of its own; the first sample sets the level
without being compared, and a LEVEL entry is tested (R127, R129). -/
def Obligations.LinesAreFiltered : Prop :=
  ∀ (s : State) (l : Line) (high : Bool), s.isRunning = true →
    let f := s.trig.lines[l]
    let set := fun v : LineFilter =>
      { s with trig := { s.trig with lines := s.trig.lines.set l v } }
    (f.sampled = true → f.high = high →
      exec (.lineSample l high) s = .next (set { f with run := 0 }))
    ∧ (f.sampled = true → f.high ≠ high → f.run < (s.trig.groups[lineGroup l]).filter →
      exec (.lineSample l high) s = .next (set { f with run := f.run + 1 }))
    ∧ (f.sampled = true → f.high ≠ high → (s.trig.groups[lineGroup l]).filter ≤ f.run →
      ∃ t, exec (.acceptedChange l high) s = .next t
        ∧ t.trig.lines[l] = { f with high := high, run := 0 })
    ∧ (f.sampled = false →
      exec (.firstSample l high) s
        = .next ((set { high := high, run := 0, sampled := true }).testLevel l))
    ∧ ((s.trigger l).config.sense = .edge → ∀ t : State, t.testLevel l ≠ t →
        (t.trigger l).config.sense = .level)

/-- An accepted change, in order: the INPUT notice where the group reports; an EDGE entry fires at a change
into its active level, a LEVEL entry is tested there and its resting mark is cleared at the other change;
and the change is offered to the matchers where the group is enabled (R128, R130, R133, R134, R141). Each
matcher takes it on its own; one that fires queues MATCHED with the outcome of its firing, and then acts;
where both fire, in either order (R147, R150; the order is open, log 9). -/
def Obligations.AcceptedChangesAct : Prop :=
  (∀ (s : State) (l : Line) (high : Bool), s.isRunning = true →
     (s.trig.lines[l]).sampled = true → (s.trig.lines[l]).high ≠ high →
     (s.trig.groups[lineGroup l]).filter ≤ (s.trig.lines[l]).run →
     let g := s.trig.groups[lineGroup l]
     let e := (s.trigger l).config
     let active := high != e.activeLow
     let f : LineFilter := { s.trig.lines[l] with high := high, run := 0 }
     let s1 : State := { s with trig := { s.trig with lines := s.trig.lines.set l f } }
     let s2 := if g.report then s1.notify (.input l high) else s1
     let s3 := match e.sense with
       | .edge => if active && e.enabled && g.enable then s2.fire (.line l) e.firing else s2
       | .level =>
         if active then s2.testLevel l
         else s2.modTrigger l fun t => { t with resting := false }
     exec (.acceptedChange l high) s
       = .next (if g.enable then s3.offerChange l high else s3))
  ∧ (∀ (s : State) (l : Line) (high : Bool),
       let a := s.trig.matchers[0].take l high
       let b := s.trig.matchers[1].take l high
       let s1 : State := { s with trig := { s.trig with matchers := #v[a.1, b.1] } }
       let fires := fun (t : State) (m : Fin 2) (f : Firing) =>
         (t.notify (.matched m f.action (t.firingOutcome (.matcher m) f))).fire (.matcher m) f
       let fa := a.1.config.firing
       let fb := b.1.config.firing
       (a.2 = false → b.2 = false → s.offerChange l high = s1)
       ∧ (a.2 = true → b.2 = false → s.offerChange l high = fires s1 0 fa)
       ∧ (a.2 = false → b.2 = true → s.offerChange l high = fires s1 1 fb)
       ∧ (a.2 = true → b.2 = true → ∃ n, let u : State := { s1 with free := n }
           s.offerChange l high = fires (fires u 0 fa) 1 fb
           ∨ s.offerChange l high = fires (fires u 1 fb) 0 fa))

/-- The level condition of an entry is its six conditions together, and a test fires the entry exactly where
they hold (R135). A firing: EVENT posts the source's event to all four contexts; a firing that finds its
source's record queued sets the coalesced mark; one that finds sixteen records sets the missed mark with a
TRIGGER_MISSED notice; any other appends its delivery record, and the queue is examined (R136 to R138,
R150). -/
def Obligations.LevelTestsAndFirings : Prop :=
  (∀ (s : State) (l : Line),
     let e := s.trigger l
     (s.levelHolds l = true ↔ e.config.sense = .level
       ∧ ((s.trig.lines[l]).sampled = true ∧ (s.trig.lines[l]).high = !e.config.activeLow)
       ∧ e.config.enabled = true ∧ (s.trig.groups[lineGroup l]).enable = true ∧ e.heldBy = 0
       ∧ (∀ r ∈ s.trig.queue, r.source ≠ .line l) ∧ e.resting = false)
     ∧ s.testLevel l
         = (if s.levelHolds l = true then s.fire (.line l) e.config.firing else s))
  ∧ (∀ (s : State) (src : Source) (f : Firing),
       let queued := s.trig.queue.any fun r => r.source == src
       (f.action = .event → s.fire src f = { s with posts := s.posts ++ [(0, sourceEvent src),
           (1, sourceEvent src), (2, sourceEvent src), (3, sourceEvent src)] })
       ∧ (sourceEvent src).val = (match src with | .line l => l.val | .matcher m => 24 + m.val)
       ∧ (f.action ≠ .event → queued = true → s.fire src f =
           match src with
           | .line l => s.modTrigger l fun t => { t with coalesced := true }
           | .matcher m => s.modMatcher m fun t => { t with coalesced := true })
       ∧ (f.action ≠ .event → queued = false → 16 ≤ s.trig.queue.length → s.fire src f =
           State.notify (match src with
             | .line l => s.modTrigger l fun t => { t with missed := true }
             | .matcher m => s.modMatcher m fun t => { t with missed := true })
             (.triggerMissed src f.action))
       ∧ (f.action ≠ .event → queued = false → s.trig.queue.length < 16 → s.fire src f =
           State.examine { s with trig := { s.trig with
             queue := s.trig.queue ++ [f.appends src] } }))

/-- A matcher's step, and a tick at it (R147, R148, R149): at the step of its progress index it advances, or
fires when the raised index is the step count; otherwise it starts afresh from step 0 alone. -/
def Obligations.MatchersStep : Prop :=
  ∀ (m : Matcher) (l : Line) (high : Bool),
    let fits := fun i => ((m.config.steps.toList.getD i 0).toNat % 128 = l.val
      ∧ high = !(m.config.steps.toList.getD i 0).getLsbD 7)
    let at_ := fun p g => { m with progress := p, gapRemaining := g }
    (m.config.enabled = false → m.take l high = (m, false))
    ∧ (m.config.enabled = true → fits m.progress → m.take l high =
        if m.progress + 1 = m.config.stepCount then (at_ 0 0, true)
        else (at_ (m.progress + 1) m.config.gap, false))
    ∧ (m.config.enabled = true → ¬fits m.progress → fits 0 → m.take l high =
        if m.config.stepCount = 1 then (at_ 0 0, true) else (at_ 1 m.config.gap, false))
    ∧ (m.config.enabled = true → ¬fits m.progress → ¬fits 0 →
        m.take l high = (at_ 0 0, false))
    ∧ (m.progress = 0 → m.tick = m)
    ∧ (0 < m.progress → 1 < m.gapRemaining → m.tick = at_ m.progress (m.gapRemaining - 1))
    ∧ (0 < m.progress → m.gapRemaining = 1 → m.tick = at_ 0 0)

/-- CONFIG_GROUP takes its three values; turning the enable on tests the LEVEL entries of the group's eight
lines, lowest line first (R131, R135). CONFIG_TRIGGER and CONFIG_MATCHER take the whole configuration at once
and keep the coalesced and missed marks; an entry stops resting, and an EDGE entry's held-by set is emptied;
a matcher's attempt is abandoned; a LEVEL entry is tested (R143, R152). The queue is then examined (R155; that
the examination comes last, log 29). -/
def Obligations.TrigConfigurationTakesEffect : Prop :=
  (∀ (s : State) (n : Byte) (g : Fin 3) (e : GroupEntry), s.accepts → n.toNat = g.val →
     e.filter.toNat ≤ 15 →
     let v : Group := { enable := e.enable.getLsbD 0, report := e.report.getLsbD 0,
                        filter := e.filter.toNat }
     let t := s.ack (.configGroup n e)
     let s1 : State := { t with trig := { s.trig with groups := s.trig.groups.set g v } }
     exec (.configGroup n e) s = .next (State.examine
       (if v.enable = true ∧ (s.trig.groups[g]).enable = false then
         ((List.range 8).map fun i => (⟨8 * g.val + i % 8, by omega⟩ : Line)).foldl
           State.testLevel s1
        else s1)))
  ∧ (∀ (s : State) (n : Byte), s.accepts →
       (∀ (l : Line) (e : TriggerEntry) (cfg : TriggerConfig), n.toNat = l.val →
         TriggerEntry.config e = some cfg →
         let t := s.ack (.configTrigger n e)
         let old := s.trigger l
         let new : Trigger := { old with config := cfg, resting := false,
                                         heldBy := if cfg.sense = .edge then 0 else old.heldBy }
         let s1 : State := { t with trig := { s.trig with triggers := s.trig.triggers.set l new } }
         exec (.configTrigger n e) s = .next
           (if cfg.sense = .level then s1.testLevel l else s1).examine)
       ∧ (∀ (m : Fin 2) (e : MatcherEntry) (cfg : MatcherConfig), n.toNat = m.val →
         MatcherEntry.config e = some cfg →
         let t := s.ack (.configMatcher n e)
         let new : Matcher := { s.trig.matchers[m] with config := cfg, progress := 0,
                                                        gapRemaining := 0 }
         let s1 : State := { t with trig := { s.trig with matchers := s.trig.matchers.set m new } }
         exec (.configMatcher n e) s = .next s1.examine))

/-- A context's answer to an offered delivery by its phase (R155, R55, R56, R60, R61). A context that takes an
offer acts as it does on a GO, a RELEASE or a STOP, and leaves the remaining set; TRIG then knows the phase
in which it stands (that it is the phase after the offer, log 25), and a GO taken sets the taken mark and
joins a LEVEL source's held-by set; one whose answer waits changes nothing; one that refuses leaves the set
with a TRIGGER_REFUSED notice. A FIXED record is offered to each context of its remaining set, P0 first: those
whose answer waits stay in it, the others leave it; the service is complete when the set is empty (R139, R156,
R158). -/
def Obligations.OffersAndFixedRecords : Prop :=
  (∀ (c : Context) (field : Half) (fade : Nat),
     c.answer (.go none) = (match c.phase with
       | .idle => if ptrEnd c.home then .refused .noCue else .taken
       | .fetch => .waits
       | .fade | .hold | .wait => .taken
       | .paused | .releasing => .waits
       | .faulted => .refused .faulted)
     ∧ c.answer (.go (some field)) = (match c.phase with
       | .idle => .taken
       | .fetch => .waits
       | .fade | .hold | .wait => .taken
       | .paused => .waits
       | .releasing => .taken
       | .faulted => .refused .faulted)
     ∧ c.answer (.release fade) = (match c.phase with | .fetch => .waits | _ => .taken)
     ∧ c.answer .stop = .taken)
  ∧ (∀ (s : State) (r : DeliveryRecord),
       let z := s.serveFixed r
       (∀ p, ctxIn p z.1.remaining
         = (ctxIn p r.remaining && (s.ctx p).answer r.delivery == .waits))
       ∧ z.1.taken = (r.taken || ((match r.delivery with | .go _ => true | _ => false)
           && allCtx.any fun p => ctxIn p r.remaining && (s.ctx p).answer r.delivery == .taken))
       ∧ (z.2.1 = true ↔ z.1.remaining = 0)
       ∧ z.1.source = r.source ∧ z.1.delivery = r.delivery ∧ z.1.mode = r.mode
       ∧ z.1.expiry = r.expiry
       ∧ (∀ p, (ctxIn p r.remaining = false ∨ (s.ctx p).answer r.delivery ≠ .taken) →
           z.2.2.ctx p = s.ctx p ∧ z.2.2.trig.known[p] = s.trig.known[p])
       ∧ (∀ p, ctxIn p r.remaining = true → (s.ctx p).answer r.delivery = .taken →
           z.2.2.trig.known[p] = (z.2.2.ctx p).phase)
       ∧ (∀ l, r.source = .line l → (s.trigger l).config.sense = .level →
           (z.2.2.trigger l).heldBy = (s.trigger l).heldBy ||| (match r.delivery with
             | .go _ => (allCtx.filter fun p => ctxIn p r.remaining
                 && (s.ctx p).answer r.delivery == .taken).foldl (fun acc p => acc ||| ctxBit p) 0
             | _ => 0)))
  ∧ (∀ (s : State) (r : DeliveryRecord),
       let z := ([0, 1, 2, 3] : List Ctx).foldl (fun (acc : DeliveryRecord × State) p =>
         if ctxIn p r.remaining then (acc.2.offer acc.1 p).2 else acc) (r, s)
       s.serveFixed r = (z.1, z.1.remaining == 0, z.2))
  ∧ (∀ (s : State) (r : DeliveryRecord) (p : Ctx),
       let out : DeliveryRecord := { r with remaining := ctxOut r.remaining p }
       let known := fun t : State => { t with trig := { t.trig with
         known := t.trig.known.set p (t.ctx p).phase } }
       s.offer r p = match (s.ctx p).answer r.delivery with
         | .taken => (match r.delivery with
           | .go pointer =>
             let t := known (s.takeGo p pointer)
             (.taken, { out with taken := true }, match r.source with
               | .line l =>
                 let joined : Trigger :=
                   { s.trigger l with heldBy := (s.trigger l).heldBy ||| ctxBit p }
                 if (s.trigger l).config.sense = .level then
                   { t with trig := { t.trig with triggers := t.trig.triggers.set l joined } }
                 else t
               | .matcher _ => t)
           | .release fade => (.taken, out, known (s.takeRelease p fade))
           | .stop => (.taken, out, known (s.takeStop p)))
         | .waits => (.waits, r, s)
         | .refused why =>
           (.refused why, out, s.notify (.triggerRefused r.source p (match r.delivery with
             | .go _ => .go
             | .release _ => .release
             | .stop => .stop) why)))
  ∧ (∀ (s : State) (p : Ctx),
       (∀ field, s.takeGo p (some field) = s.enterFetch p field)
       ∧ (s.takeGo p none = match (s.ctx p).activity with
           | .running cue _ => s.completeNormally p cue
           | _ => s.enterFetch p (s.ctx p).home)
       ∧ (∀ n : Byte, s.accepts → n.toNat = p.val →
           exec (.stop n) s = .next ((s.ack (.stop n)).takeStop p))
       ∧ (∀ (n : Byte) (fade : Half), s.accepts → n.toNat = p.val → fade.toNat ≠ 65535 →
           (s.ctx p).phase ≠ .fetch → exec (.release n fade) s
             = .next ((s.ack (.release n fade)).takeRelease p fade.toNat)))

/-- A FIRST_IDLE record is offered to its candidates known FAULTED, lowest first, and then to those known
IDLE, lowest first: taking completes the service, waiting ends it with the record as it stands, and a refusal,
with its TRIGGER_REFUSED notice, leads to the next; a record with no candidate left is complete (R157, R158).
Where TRIG knows the candidates rightly: each FAULTED candidate refuses and leaves; the lowest candidate that
is IDLE and takes the GO completes the record; with none IDLE the record stays (R157; that TRIG then knows the
phase after the offer, log 25). -/
def Obligations.FirstIdleRecordsAreServed : Prop :=
  (∀ (s : State) (r : DeliveryRecord),
     let lowest := fun ph : Phase => ([0, 1, 2, 3] : List Ctx).find? fun p =>
       ctxIn p r.remaining && s.trig.known[p] == ph
     s.serveFirstIdle r = match (lowest .faulted).or (lowest .idle) with
       | none => (r, r.remaining == 0, s)
       | some p => match (s.ctx p).answer r.delivery with
         | .taken => ((s.offer r p).2.1, true, (s.offer r p).2.2)
         | .waits => (r, false, s)
         | .refused why =>
           State.serveFirstIdle (s.notify (.triggerRefused r.source p (match r.delivery with
             | .go _ => .go
             | .release _ => .release
             | .stop => .stop) why)) { r with remaining := ctxOut r.remaining p })
  ∧ ∀ (s : State) (r : DeliveryRecord) (pointer : Option Half), r.delivery = .go pointer →
    (∀ p : Ctx, s.trig.known[p] = (s.ctx p).phase) →
    let z := s.serveFirstIdle r
    let idle := allCtx.filter fun p => ctxIn p r.remaining && (s.ctx p).phase == .idle
    ((∀ p, ctxIn p r.remaining = true → (s.ctx p).phase ≠ .idle) →
      (∀ p, ctxIn p z.1.remaining = (ctxIn p r.remaining && (s.ctx p).phase != .faulted))
      ∧ (∀ p, z.2.2.ctx p = s.ctx p) ∧ z.1.taken = r.taken
      ∧ (z.2.1 = true ↔ z.1.remaining = 0))
    ∧ (∀ p rest, idle = p :: rest → (s.ctx p).answer r.delivery = .taken →
      z.2.1 = true ∧ z.1.taken = true ∧ (∀ q, q ≠ p → z.2.2.ctx q = s.ctx q)
      ∧ z.2.2.trig.known[p] = (z.2.2.ctx p).phase
      ∧ ((∀ q, ctxIn q r.remaining = true → (s.ctx q).phase ≠ .faulted) →
          z.2.2.ctx p = (s.takeGo p pointer).ctx p ∧ z.2.2.store = (s.takeGo p pointer).store
          ∧ z.2.2.reports = (s.takeGo p pointer).reports))

/-- An examination walks the queue from its oldest record on: each record is served as its delivery mode
requires and put back as its service left it; one whose service is complete is removed, with the tests of its
removal in the walk, and the walk goes on with the record behind (R155, R156, R157, R159; a record that
expires at the tick being taken is passed over, log 15; the bound on the records reached, log 16). A test in
the walk fires the entry without an examination of its own (R155). The reports that contexts make in the walk
are taken when it has ended (R155; how, log 11). An examination that offers nothing, because no record stands
or every offer waits, changes nothing (R155). A record's removal: it leaves the queue and the others keep
their order; the entry of a LEVEL source whose GO no context took rests; and every LEVEL entry is tested,
lowest line first (R141, R153, R159). -/
def Obligations.ExaminationsAndRemovals : Prop :=
  (∀ s : State,
     (∀ r ∈ s.trig.queue, r.remaining ≠ 0 ∧
       match r.mode with
       | .fixed => ∀ p, ctxIn p r.remaining = true → (s.ctx p).answer r.delivery = .waits
       | .firstIdle => ∀ p : Ctx, ctxIn p r.remaining = true →
           s.trig.known[p] ≠ .idle ∧ s.trig.known[p] ≠ .faulted) →
     s.examine = s)
  ∧ (∀ s : State,
       let w := State.walk 64 0 { s with reports := [] }
       s.examine = State.takeOwed (1024 + s.reports.length) { w with reports := s.reports } w.reports)
  ∧ (∀ (s : State) (k i : Nat),
       (s.trig.queue[i]? = none → State.walk (k + 1) i s = s)
       ∧ (∀ r, s.trig.queue[i]? = some r →
           (r.expiry = some 0 → State.walk (k + 1) i s = State.walk k (i + 1) s)
           ∧ (r.expiry ≠ some 0 →
               let z := match r.mode with
                 | .fixed => s.serveFixed r
                 | .firstIdle => s.serveFirstIdle r
               let u : State := { z.2.2 with trig := { z.2.2.trig with
                 queue := s.trig.queue.set i z.1 } }
               State.walk (k + 1) i s =
                 if z.2.1 then State.walk k i (State.removeRecord State.testInWalk u z.1)
                 else State.walk k (i + 1) u)))
  ∧ (∀ (s : State) (l : Line),
       let f := (s.trigger l).config.firing
       (s.levelHolds l = false → s.testInWalk l = s)
       ∧ (s.levelHolds l = true → f.action ≠ .event → s.trig.queue.length < 16 →
           s.testInWalk l = { s with trig := { s.trig with
             queue := s.trig.queue ++ [f.appends (.line l)] } })
       ∧ (s.levelHolds l = true → f.action ≠ .event → 16 ≤ s.trig.queue.length →
           s.testInWalk l = (s.modTrigger l fun t => { t with missed := true }).notify
             (.triggerMissed (.line l) f.action))
       ∧ (s.levelHolds l = true → f.action = .event → s.testInWalk l = s.post (sourceEvent (.line l))))
  ∧ (∀ (test : State → Line → State) (s : State) (r : DeliveryRecord),
       let queue := s.trig.queue.filter fun q => q.source != r.source
       let s1 : State := match r.source with
         | .line l =>
           if (s.trigger l).config.sense = .level ∧ r.taken = false then
             s.modTrigger l fun t => { t with resting := true }
           else s
         | .matcher _ => s
       let s2 : State := { s1 with trig := { s1.trig with queue := queue } }
       State.removeRecord test s r = (List.finRange 24).foldl test s2
       ∧ ((∀ l, s2.levelHolds l = false) → State.removeRecord State.testLevel s r = s2
           ∧ State.removeRecord State.testInWalk s r = s2))

/-- TRIG takes the oldest phase report of a context: its knowledge takes the phase; at a report of IDLE the
context leaves every held-by set, the entries whose set becomes empty are tested, lowest line first, and the
queue is examined once; any other report brings an examination (R155, R198; that each report that stands is a
step of its own, log 11). The reports that a walk made are taken when it has ended, in the order made, each
with its held-by work and the examination it brings, whose own reports join behind (R155, R198); a report of
the same context that was made before and still stands is taken before them (R42; log 11). -/
def Obligations.PhaseReportsAreTaken : Prop :=
  (∀ (s : State) (k : Nat) (r : Report) (rest : List Report),
     State.takeOwed k s [] = s
     ∧ (let examineOwing := fun (t : State) (owed : List Report) =>
          let w := State.walk 64 0 { t with reports := [] }
          State.takeOwed k { w with reports := t.reports } (owed ++ w.reports)
        let take := fun (t : State) (q : Report) (owed : List Report) =>
          let t1 : State := { t with trig := { t.trig with
            known := t.trig.known.set q.p q.phase } }
          if q.phase = .idle then
            let left : Vector Trigger 24 := Vector.ofFn fun l : Fin 24 =>
              { t.trigger l with heldBy := ctxOut (t.trigger l).heldBy q.p }
            let emptied := (List.finRange 24).filter fun l : Fin 24 =>
              ctxIn q.p (t.trigger l).heldBy && ctxOut (t.trigger l).heldBy q.p == 0
            let z := emptied.foldl (fun (acc : State × List Report) l =>
              let f := (acc.1.trigger l).config.firing
              let fired := acc.1.act (.line l) f
              if acc.1.levelHolds l = false then acc
              else if acc.1.firingOutcome (.line l) f = .appended then (examineOwing fired acc.2, [])
              else (fired, acc.2)) ({ t1 with trig := { t1.trig with triggers := left } }, owed)
            examineOwing z.1 z.2
          else examineOwing t1 owed
        ((∀ q ∈ s.reports, q.p ≠ r.p) → State.takeOwed (k + 1) s (r :: rest) = take s r rest)
        ∧ (∀ before q after, s.reports = before ++ q :: after → q.p = r.p →
            (∀ x ∈ before, x.p ≠ r.p) → State.takeOwed (k + 1) s (r :: rest)
              = take { s with reports := before ++ after } q (r :: rest))))
  ∧ ∀ (s : State) (p : Ctx) (r : Report) (before after : List Report),
    s.reports = before ++ r :: after → r.p = p → (∀ q ∈ before, q.p ≠ p) →
    let s1 : State := { s with reports := before ++ after,
                               trig := { s.trig with known := s.trig.known.set p r.phase } }
    exec (.phaseReport p) s = .next
      (if r.phase = .idle then
        let left : Vector Trigger 24 := Vector.ofFn fun l : Fin 24 =>
          { s.trigger l with heldBy := ctxOut (s.trigger l).heldBy p }
        let emptied := (List.finRange 24).filter fun l : Fin 24 =>
          ctxIn p (s.trigger l).heldBy && ctxOut (s.trigger l).heldBy p == 0
        (emptied.foldl State.testLevel
          { s1 with trig := { s1.trig with triggers := left } }).examine
       else s1.examine)

/-- A tick at TRIG: each matcher's attempt counts its gap, and each record its expiry; with nothing that
lapses or expires the counts are all that changes; a matcher whose gap ends and a record whose expiry ends
do so at such a tick, the record with a TRIGGER_EXPIRED notice that names its remaining set, several records
oldest first (R149, R160; that a lapse and an expiry are the whole tick arrival, log 8; how ticks come to
TRIG, log 7). -/
def Obligations.TickCountsAtTrig : Prop :=
  ∀ s : State, 0 < s.owed.trig →
    let counted : List DeliveryRecord :=
      s.trig.queue.map fun r => { r with expiry := r.expiry.map (· - 1) }
    let s1 : State := { s with trig := { s.trig with
      queue := counted, matchers := #v[s.trig.matchers[0].tick, s.trig.matchers[1].tick] } }
    let done := fun t : State => { t with owed := { t.owed with trig := t.owed.trig - 1 } }
    ((∀ r ∈ counted, r.expiry ≠ some 0) → exec .tickArrivalTrig s = .next (done s1))
    ∧ exec .tickArrivalTrig s = .next (done
        ((counted.filter fun r => r.expiry == some 0).foldl (fun (t : State) e =>
          match t.trig.queue.find? (fun r => r.source == e.source) with
          | none => t
          | some r => State.removeRecord State.testLevel (t.notify (.triggerExpired r.source
              (match r.delivery with | .go _ => .go | .release _ => .release | .stop => .stop)
              r.remaining)) r) s1))
    ∧ (∀ r ∈ s.trig.queue, r.expiry = some 1 →
        exec (.recordExpiry r.source) s = exec .tickArrivalTrig s)
    ∧ (∃ t, exec .tickArrivalTrig s = .next t
        ∧ (∀ m : Fin 2, (t.trig.matchers[m]).progress = (s1.trig.matchers[m]).progress
            ∧ (t.trig.matchers[m]).gapRemaining = (s1.trig.matchers[m]).gapRemaining)
        ∧ (∀ m : Fin 2, 0 < (s.trig.matchers[m]).progress →
            (s.trig.matchers[m]).gapRemaining = 1 →
            exec (.gapLapse m) s = .next t ∧ (t.trig.matchers[m]).progress = 0
            ∧ (t.trig.matchers[m]).gapRemaining = 0))
    ∧ (∀ before r after, s.trig.queue = before ++ r :: after → r.expiry = some 1 →
        (∀ q ∈ before ++ after, q.expiry ≠ some 0 ∧ q.expiry ≠ some 1 ∧ q.source ≠ r.source) →
        exec (.recordExpiry r.source) s = .next (done (State.removeRecord State.testLevel
          (s1.notify (.triggerExpired r.source r.delivery.action r.remaining))
          { r with expiry := some 0 })))

/-! ### The Show Clock, resets and start-up (R164 to R176) -/

/-- SET_TICK takes the tick code and changes no count; a code above 3 is refused BAD_FIELD (R167). A tick
raises the stamp, is owed to the playback engine, the mixer and TRIG (how they come to it, log 7), and the
interval behind it has the code then set (R165, R166, R167; log 26). No tick is produced in a reset or in
STARTING (R169, R171), and nothing but a tick or a reset changes the stamp (R166). -/
def Obligations.TicksAndRates : Prop :=
  (∀ (s : State) (n : Byte), s.accepts →
     (∀ k : Fin 4, n.toNat = k.val → exec (.setTick n) s = .next
       { s.ack (.setTick n) with clk := { s.clk with tickCode := k } })
     ∧ (3 < n.toNat → exec (.setTick n) s = .next (s.refuse (.setTick n) .badField)))
  ∧ (∀ s : State, s.isRunning = true → exec .tick s = .next
       { s with clk := { s.clk with stamp := s.clk.stamp + 1, intervalCode := s.clk.tickCode },
                owed := { s.owed with play := s.owed.play + 1, mix := s.owed.mix + 1,
                                      trig := s.owed.trig + 1 } })
  ∧ (∀ s : State, s.isRunning = false → ∀ t, exec .tick s ≠ .next t)
  ∧ (4294967295 : Word) + 1 = 0
  ∧ (∀ (c : Instr) (s t : State), exec c s = .next t → c ≠ .tick →
       t.clk.stamp = s.clk.stamp ∨ (t.isInReset = true ∧ t.clk.stamp = 0))

/-- RESET_PART is acknowledged and a reset is pending; it falls when the last byte of its ACK has left, with
the cause REQUEST. A POWER or PIN reset falls at once. Each takes the whole part to its reset values, and an
interrupted store operation leaves each byte that it was writing as it was or as it would be (R21, R168,
R169, R170; that a held POWER reset keeps its cause, log 21; what no reset touches, log 23; which bytes are
left is open, log 10). -/
def Obligations.ResetsFall : Prop :=
  (∀ s : State, s.accepts → exec .resetPart s = .next
     { s.ack .resetPart with clk := { s.clk with resetPending := true } })
  ∧ (∀ s : State, ∃ cells free,
       exec .powerReset s = .next (s.inResetOf .power cells free) ∧ s.leavesArray cells)
  ∧ (∀ s : State, ∃ cells free,
       exec .pinReset s
         = .next (s.inResetOf (if s.clk.stage = .inReset .power then .power else .pin) cells free)
       ∧ s.leavesArray cells)
  ∧ (∀ (s : State) (rest : List OutFrame), s.clk.resetPending = true → s.link.sending = true →
       s.link.outbound = .reply (.ack 0x1C) :: rest →
       ∃ cells free,
         exec .frameTransmitted s = .next (s.inResetOf .request cells free) ∧ s.leavesArray cells)

/-- The reset ends: its cause is recorded, the BAUD level fixes the link rate, and start-up begins (R169,
R176). When the header has been read each block takes its items: each from its field where the header is
valid and the field passes its check, and its default otherwise (R3, R4, R6, R67, R107, R108, R126, R145,
R163, R171, R172, R197; that the channels' output fields stand aside until start-up ends, log 18; the bits
of a home pointer beside its END bit with an invalid header, log 31). -/
def Obligations.HeaderItemsAreTaken : Prop :=
  (ChannelConfig.default = { mode := .off, period := 1, deadTime := 0, safe := false, mask := 0,
                             arbitration := .htp, curve := 0 }
   ∧ Group.default = { enable := false, report := false, filter := 0 }
   ∧ Firing.default = { action := .go, mode := .fixed, targets := 1, pointer := none, fade := 0,
                        expiry := 0 }
   ∧ TriggerConfig.default = { enabled := false, activeLow := false, sense := .edge,
                               firing := Firing.default }
   ∧ MatcherConfig.default = { enabled := false, stepCount := 1, steps := Vector.replicate 8 0,
                               gap := 1000, firing := Firing.default })
  ∧ (∀ (s : State) (cause : ResetCause) (baud : Bool), s.clk.stage = .inReset cause →
       exec (.resetEnd baud) s = .next
         { s with clk := { s.clk with stage := .readingHeader, cause := cause },
                  link := { s.link with rate := if baud then .fast else .slow } })
  ∧ (∀ s : State, s.clk.stage = .readingHeader →
       let m := s.store.cells
       let valid := m.headerValid
       let cfg := fun ch : Chan =>
         (if valid then ChannelEntry.config (ChannelEntry.at m.read (32 + 8 * ch.val)) ch
          else none).getD ChannelConfig.default
       ∃ t, exec .headerReadComplete s = .next t
         ∧ (valid = true ↔ m.read 0 = 0xC5 ∧ m.read 1 = 0x24 ∧ m.read 2 = 1)
         ∧ t.clk = { s.clk with stage := .loadingCurves valid, tickCode := t.clk.tickCode }
         ∧ t.clk.tickCode.val
             = (if valid = true ∧ (m.read 3).toNat ≤ 3 then (m.read 3).toNat else 3)
         ∧ t.store = { s.store with
             mask := if valid then halfOf (m.read 4) (m.read 5) else 0xFFFF,
             lockActive := valid && m.read 6 != 0xFF }
         ∧ (∀ k : Fin 2, t.out.sources[k] = { s.out.sources[k] with
             mode := if valid = true ∧ m.read (7 + k.val) = 1 then .follow else .latch })
         ∧ (∀ p : Ctx, t.ctx p = { s.ctx p with
             home := if valid then halfOf (m.read (12 + 2 * p.val)) (m.read (13 + 2 * p.val))
                     else 0xFFFF })
         ∧ (∀ g : Fin 3, t.trig.groups[g] =
             if valid = true ∧ (m.read (22 + 3 * g.val)).toNat ≤ 15 then
               { enable := (m.read (20 + 3 * g.val)).getLsbD 0,
                 report := (m.read (21 + 3 * g.val)).getLsbD 0,
                 filter := (m.read (22 + 3 * g.val)).toNat }
             else Group.default)
         ∧ (∀ ch, t.outCh ch = { s.outCh ch with loaded := some (cfg ch) })
         ∧ (∀ ch, t.mixCh ch =
             let second := isOdd ch && (cfg (evenPartner ch)).mode == .pair
             let new := { s.mixCh ch with arbitration := (cfg ch).arbitration,
                                          curve := (cfg ch).curve, secondary := second }
             if second && !(s.mixCh ch).secondary then { new with claims := .empty, level := 0 }
             else new)
         ∧ (∀ l : Line, t.trigger l = { s.trigger l with
             config := (if valid then TriggerEntry.config (TriggerEntry.at m.read (160 + 10 * l.val))
               else none).getD TriggerConfig.default })
         ∧ (∀ k : Fin 2, t.trig.matchers[k] = { s.trig.matchers[k] with
             config := (if valid then MatcherEntry.config (MatcherEntry.at m.read (400 + 20 * k.val))
               else none).getD MatcherConfig.default })
         ∧ t.mix.held = s.mix.held ∧ t.mix.curves = s.mix.curves ∧ t.trig.lines = s.trig.lines
         ∧ t.trig.queue = s.trig.queue ∧ t.trig.known = s.trig.known
         ∧ { t with clk := s.clk, store := s.store, contexts := s.contexts, mix := s.mix,
                    out := s.out, trig := s.trig } = s)

/-- The start-up curve load ends, and start-up with it: the curve RAM is filled and each channel's level 0
translated; STARTED is queued before any other notice; the phase becomes RUNNING; the loaded output fields
come into force and pairs are formed; each context whose home pointer has END clear follows it (R101, R108,
R126, R173, R174, R175; that all of it is one step, log 22, and the tick code of the first interval, log 26).
-/
def Obligations.StartUpEnds : Prop :=
  ∀ (s : State) (valid : Bool), s.clk.stage = .loadingCurves valid → s.quietBeforeRunning →
    s.portSound → s.link.buffered = none →
    let cfg := fun ch => (s.outCh ch).loaded.getD ChannelConfig.default
    ∃ t, exec .startUpCurveLoadComplete s = .next t
      ∧ t.clk = { s.clk with stage := .running, intervalCode := s.clk.tickCode }
      ∧ t.mix.curves = loadedSlots s.store.cells
      ∧ (∀ ch, t.mixCh ch = { s.mixCh ch with dutyLast :=
          if (s.mixCh ch).secondary then 0 else t.mix.duty (s.mixCh ch).curve 0 })
      ∧ (∀ ch, t.outCh ch =
          let settings : OutSettings :=
            { mode := (cfg ch).mode, period := (cfg ch).period, deadTime := (cfg ch).deadTime,
              duty := (t.mixCh ch).dutyLast }
          { s.outCh ch with
            buffered := settings, active := settings, safe := (cfg ch).safe, mask := (cfg ch).mask,
            loaded := none,
            paired := isOdd ch && (cfg (evenPartner ch)).mode == .pair })
      ∧ t.out.sources = s.out.sources
      ∧ (∀ p, t.hasFollowed p (s.ctx p).home ∧ (t.ctx p).home = (s.ctx p).home
          ∧ (t.ctx p).report = (s.ctx p).report ∧ (t.ctx p).arrivals = (s.ctx p).arrivals)
      ∧ (∃ l, t.link.outbound
            = s.link.outbound ++ .notice 0 (.started s.clk.cause valid s.store.lockActive) :: l
          ∧ ∀ f, f ∈ l ↔ ∃ p : Ctx, ptrEnd (s.ctx p).home = false ∧ ptrIndex (s.ctx p).home < 128
              ∧ f = .notice 0
                  (.contextFault p .badPointer (ptrIndex (s.ctx p).home) (s.ctx p).current))
      ∧ t.link.service = s.link.service ∧ t.link.buffered = none
      ∧ (if ∃ p : Ctx, ptrEnd (s.ctx p).home = false ∧ 128 ≤ ptrIndex (s.ctx p).home then
           ∃ p : Ctx, ptrEnd (s.ctx p).home = false ∧ 128 ≤ ptrIndex (s.ctx p).home
             ∧ t.store.port = some (.fetch p
                 (if ptrIndirect (s.ctx p).home then .linkStep else .probe)
                 (ptrIndex (s.ctx p).home) true)
         else t.store.port = none)
      ∧ (∀ a, t.store.cells.read a = s.store.cells.read a)
      ∧ t.store.mask = s.store.mask ∧ t.store.lockActive = s.store.lockActive
      ∧ t.store.linkOp = s.store.linkOp
      ∧ t.trig = s.trig ∧ t.cells = s.cells ∧ t.posts = s.posts ∧ t.owed = s.owed

/-! ### The Host Link (R177 to R191) -/

/-- A byte with a correct stop bit is taken in the receiving state as R177 states, a complete frame is
checked as R178 states, and a LEN above 240 ends the frame (R180). A low stop bit or an expired gap inside a
frame ends it as TRUNCATED; in HUNT a low stop bit does nothing (R179). In a reset no byte is taken (R169,
R176). -/
def Obligations.ReceiverTakesBytes : Prop :=
  (∀ (s : State) (b : Byte) (stop : Bool), s.isInReset = true →
     exec (.byteArrival b stop) s = .next s)
  ∧ (∀ (s : State) (b : Byte), s.isInReset = false →
       let rx := fun v : Receiver => { s with link := { s.link with receiver := v } }
       let short := (rx .hunt).frameArrives (.refused .truncated 0)
       exec (.byteArrival b false) s = .next (if s.link.receiver = .hunt then s else short)
       ∧ (s.link.receiver ≠ .hunt → exec .gapExpiry s = .next short)
       ∧ (match s.link.receiver with
          | .hunt => exec (.byteArrival b true) s = .next (if b = 0xC5 then rx .len else s)
          | .len => exec (.byteArrival b true) s = .next
              (if 240 < b.toNat then (rx .hunt).frameArrives (.refused .badLength 0)
               else rx (.kind b b))
          | .kind len sum => exec (.byteArrival b true) s = .next
              (if len.toNat = 0 then rx (.check len b [] (sum + b))
               else rx (.body len b [] len.toNat (sum + b)))
          | .body len kind got left sum =>
            (1 < left → exec (.byteArrival b true) s
              = .next (rx (.body len kind (got ++ [b]) (left - 1) (sum + b))))
            ∧ (left = 1 → exec (.byteArrival b true) s
              = .next (rx (.check len kind (got ++ [b]) (sum + b))))
          | .check _ kind got sum =>
            ∃ f, exec (.byteArrival b true) s = .next ((rx .hunt).frameArrives f)
              ∧ (if (sum + b).toNat ≠ 0 then f = .refused .checksum 0
                 else if kind.toNat = 0 ∨ 31 < kind.toNat then f = .refused .badKind kind
                 else if lengthAllowed kind got.length = false then f = .refused .badLength kind
                 else ∃ r : Request, f = .request r ∧ r.kind = kind ∧ r.body.length = got.length
                   ∧ ∀ i, ¬(kind.toNat = 0x13 ∧ i = 8) → ¬(kind.toNat = 0x17 ∧ i = 4) →
                       r.body[i]? = got[i]?)))

/-- A request survives the wire: kind and body decode to the request that they were written from, with every
operand at every value; and the bytes of its frame, arriving one after another at a receiver that hunts, have
together exactly the effect of the request's arrival (sections 11.2, 11.3; R177, R178, R181). -/
def Obligations.RequestsSurviveTheWire : Prop :=
  ∀ r : Request, r.wf = true →
    Request.decode r.kind r.body = .request r
    ∧ r.body.length ≤ 240
    ∧ ∀ (s : State) (q : List Instr), s.isInReset = false → s.link.receiver = .hunt →
        Host.Core.run Sys2Proof.core r.frame.length
            (s.withPending ((r.frame.map fun b => Instr.byteArrival b true) ++ q))
          = .next ((s.withPending q).frameArrives (.request r))

/-- A request command is the arrival of its frame (log 4). A frame that finds eight replies queued or the
buffered place occupied is dropped with the request-dropped flag set (that this holds as well where the
service place has just become empty, log 13), but one that finds a RESET_PART pending and the buffered place
empty is held there, however many replies are queued (R170, R184; R181 reads otherwise, and which is
followed is the model's choice, log 30); one that finds the service place empty and no RESET_PART pending is
brought into service; any other is buffered (R181, R184). A refused frame is answered with its reason, and
in STARTING every request is refused STARTING (R182). A buffered frame that moves is served as one that
arrives (R183). -/
def Obligations.FramesArrive : Prop :=
  (∀ (s : State) (r : Request), exec (requestCommand r) s = .next (s.frameArrives (.request r)))
  ∧ (∀ (s : State) (f : InFrame),
       (s.isInReset = true → s.frameArrives f = s)
       ∧ (s.isInReset = false → s.frameArrives f =
           if (8 ≤ s.link.replies ∧ s.clk.resetPending = false) ∨ s.link.buffered ≠ none then
             { s with link := { s.link with dropped := true } }
           else if s.link.service = none ∧ s.clk.resetPending = false then s.bringIntoService f
           else { s with link := { s.link with buffered := some f } })
       ∧ (∀ why kind, s.bringIntoService (.refused why kind) = s.reply (.refuse kind why))
       ∧ (∀ r : Request, s.isRunning = false →
           s.bringIntoService (.request r) = s.reply (.refuse r.kind .starting))
       ∧ (s.isInReset = false → s.link.service = none → s.link.buffered = some f →
           s.clk.resetPending = false → s.link.replies < 8 →
           exec .bufferedRequestMove s = .next
             (State.frameArrives { s with link := { s.link with buffered := none } } f)))

/-- When a frame has left, its slot is freed and the next is begun where HOLD is low; a change of HOLD begins
a waiting frame where it falls, and stops none (R186, R188). A frame is SYNC, LEN, KIND, body and CHECK, and
its bytes behind SYNC sum to 0 (section 11.2). -/
def Obligations.FramesLeave : Prop :=
  (∀ (s : State) (f : OutFrame) (rest : List OutFrame), s.link.sending = true →
     s.link.outbound = f :: rest → (s.clk.resetPending = false ∨ f ≠ .reply (.ack 0x1C)) →
     exec .frameTransmitted s = .next { s with link := { s.link with
       outbound := rest, sending := !s.link.hold && !rest.isEmpty } })
  ∧ (∀ (s : State) (high : Bool), exec (.holdChange high) s = .next { s with link := { s.link with
       hold := high, sending := s.link.sending || (!high && !s.link.outbound.isEmpty) } })
  ∧ (∀ f : OutFrame, ∃ (kind check : Byte) (body : List Byte),
       f.bytes = 0xC5 :: BitVec.ofNat 8 body.length :: kind :: (body ++ [check])
       ∧ (f.bytes.tail.map BitVec.toNat).sum % 256 = 0)

/-- READY is high exactly where the phase is RUNNING, no RESET_PART is pending, the buffered place is empty
and six replies or fewer are queued (R190). -/
def Obligations.ReadyPin : Prop :=
  ∀ s : State,
    (s.ready = true ↔ s.clk.stage = .running ∧ s.clk.resetPending = false
      ∧ s.link.buffered = none ∧ s.link.replies ≤ 6)
    ∧ s.link.replies
        = (s.link.outbound.filter fun f => match f with | .reply _ => true | .notice _ _ => false).length

/-! ### What every step keeps -/

/-- Every step keeps the array canonical and a program within it, the arbiter's order and grants, the bounds
and the distinct sources of the pending trigger queue, and the bounds of the outbound queue (R1, R11, R16,
R17, R153, R183, R185). -/
def Obligations.StepKeepsTheQueues : Prop :=
  ∀ s t : State, step s = .next t →
    (s.storeSound → t.storeSound) ∧ (s.portSound → t.portSound) ∧ (s.queueSound → t.queueSound)
    ∧ (s.outboundSound → t.outboundSound)

/-- Every step keeps a secondary without claims at level 0, and the pair marks with the active modes; and,
where nothing has moved before RUNNING, every level as its claims give it and every duty as its level and
curve give it (R88, R97, R100, R107, R109, R113, R115). -/
def Obligations.StepKeepsTheChannels : Prop :=
  ∀ s t : State, step s = .next t →
    (s.secondariesSound → t.secondariesSound) ∧ (s.pairsSound → t.pairsSound)
    ∧ (s.quietBeforeRunning → s.levelsSound → t.levelsSound)

/-- Every step keeps the part still before RUNNING, and the held set with the contexts that are PAUSED or
FAULTED (R58, R65, R94, R171). -/
def Obligations.StepKeepsThePhases : Prop :=
  ∀ s t : State, step s = .next t →
    (s.quietBeforeRunning → t.quietBeforeRunning)
    ∧ (s.quietBeforeRunning → s.heldSound → t.heldSound)
end

