-- ==== Sys2Proof/Laws/Memory.lean ====
section
/-! SUPPORT. The store array: reading after a write, a program or an erase, and the canonical form that
every operation keeps (R1, R2, R12, R13). -/

namespace Sys2Proof.Machine

theorem Memory.read_insert (m : Memory) (a b : Nat) (v : Byte) :
    Memory.read (Memory.insert m a v) b = if b = a then v else Memory.read m b := by
  induction m with
  | nil => simp [Memory.insert, Memory.read]
  | cons c m ih =>
    obtain ⟨k, w⟩ := c
    by_cases h1 : a < k
    · simp [Memory.insert, h1, Memory.read]
    · by_cases h2 : a = k
      · subst h2
        by_cases hb : b = a <;> simp [Memory.insert, Memory.read, hb]
      · simp only [Memory.insert, h1, h2, if_false, Memory.read, ih]
        by_cases hb : b = k
        · subst hb; simp [Ne.symm h2]
        · simp [hb]

theorem Memory.read_filter (m : Memory) (p : Nat → Bool) (b : Nat) :
    Memory.read (m.filter fun c => p c.1) b = if p b then Memory.read m b else Memory.erased := by
  induction m with
  | nil => simp [Memory.read]
  | cons c m ih =>
    obtain ⟨k, w⟩ := c
    by_cases hk : p k
    · simp only [List.filter_cons, hk, if_true, Memory.read, ih]
      by_cases hb : b = k
      · subst hb; simp [hk]
      · simp [hb]
    · simp only [List.filter_cons, hk, Memory.read]
      by_cases hb : b = k
      · subst hb; simp [hk, ih]
      · simp [hb, ih]

/-- Reading after a write of one byte. -/
theorem Memory.read_write (m : Memory) (a b : Nat) (v : Byte) :
    Memory.read (m.write a v) b = if b = a then v else Memory.read m b := by
  unfold Memory.write
  split
  · next h =>
    rw [Memory.read_filter m (fun k => k != a)]
    by_cases hb : b = a <;> simp [hb, h]
  · exact Memory.read_insert m a b v

/-- Programming one byte ANDs it (R2). -/
theorem Memory.read_programByte (m : Memory) (a b : Nat) (v : Byte) :
    Memory.read (m.programByte a v) b = if b = a then m.read a &&& v else m.read b :=
  Memory.read_write m a b _

/-- Reading after a program: the AND with the byte supplied at the addresses named, the former value
elsewhere (R2, R12). -/
theorem Memory.read_program (m : Memory) (a : Nat) (vs : List Byte) (b : Nat) :
    Memory.read (m.program a vs) b
      = if h : a ≤ b ∧ b < a + vs.length then m.read b &&& vs[b - a] else m.read b := by
  induction vs generalizing m a with
  | nil =>
    simp only [Memory.program, List.length_nil, Nat.add_zero]
    split
    · next h => omega
    · rfl
  | cons v vs ih =>
    simp only [Memory.program, ih, Memory.read_programByte]
    by_cases hb : b = a
    · subst hb
      simp
    · by_cases h : a + 1 ≤ b ∧ b < a + 1 + vs.length
      · have h' : a ≤ b ∧ b < a + (v :: vs).length := by simp; omega
        rw [dif_pos h, dif_pos h']
        have : b - a = (b - (a + 1)) + 1 := by omega
        simp [hb, this]
      · have h' : ¬(a ≤ b ∧ b < a + (v :: vs).length) := by simp; omega
        rw [dif_neg h, dif_neg h']
        simp [hb]

/-- Reading after a store frame's erase (R13). -/
theorem Memory.read_eraseFrame (m : Memory) (f b : Nat) :
    Memory.read (m.eraseFrame f) b = if b / 512 = f then Memory.erased else m.read b := by
  unfold Memory.eraseFrame Memory.eraseIf
  rw [Memory.read_filter m (fun k => !(k / 512 == f))]
  by_cases h : b / 512 = f <;> simp [h]

/-- The comparison after a program finds an address exactly where the array differs there and at no
address before it (R12). -/
theorem Memory.firstDifference_eq_some (m : Memory) (a : Nat) (vs : List Byte) (b : Nat) :
    m.firstDifference a vs = some b ↔
      ∃ h : a ≤ b ∧ b < a + vs.length, m.read b ≠ vs[b - a] ∧
        ∀ c, ∀ hc : a ≤ c ∧ c < b, m.read c = vs[c - a]'(by omega) := by
  induction vs generalizing a with
  | nil =>
    simp only [Memory.firstDifference, List.length_nil, Nat.add_zero]
    constructor
    · intro h; cases h
    · rintro ⟨h, -⟩; omega
  | cons v vs ih =>
    simp only [Memory.firstDifference]
    by_cases hv : m.read a = v
    · simp only [hv, if_true, ih]
      constructor
      · rintro ⟨h, h1, h2⟩
        have hlt : a + 1 ≤ b ∧ b < a + 1 + vs.length := h
        refine ⟨by simp; omega, ?_, ?_⟩
        · have : b - a = (b - (a + 1)) + 1 := by omega
          simpa [this] using h1
        · intro c hc
          by_cases hca : c = a
          · subst hca; simpa using hv
          · have : c - a = (c - (a + 1)) + 1 := by omega
            simpa [this] using h2 c (by omega)
      · rintro ⟨h, h1, h2⟩
        have hne : b ≠ a := by
          rintro rfl; apply h1; simpa using hv
        simp only [List.length_cons] at h
        refine ⟨by omega, ?_, ?_⟩
        · have : b - a = (b - (a + 1)) + 1 := by omega
          simpa [this] using h1
        · intro c hc
          have h3 := h2 c (by omega)
          have : c - a = (c - (a + 1)) + 1 := by omega
          simpa [this] using h3
    · simp only [hv, if_false, Option.some.injEq]
      constructor
      · rintro rfl
        refine ⟨by simp, by simpa using hv, ?_⟩
        intro c hc; omega
      · rintro ⟨h, h1, h2⟩
        by_contra hne
        have := h2 a (by omega)
        simp at this
        exact hv this

/-! ### The canonical form -/

theorem Memory.wfFrom_mono {n k : Nat} (h : n ≤ k) {m : Memory} (hm : Memory.wfFrom k m = true) :
    Memory.wfFrom n m = true := by
  cases m with
  | nil => rfl
  | cons c m =>
    simp only [Memory.wfFrom, Bool.and_eq_true, decide_eq_true_eq] at hm ⊢
    exact ⟨⟨by omega, hm.1.2⟩, hm.2⟩

theorem Memory.wfFrom_filter (n : Nat) (m : Memory) (p : Host.Cell → Bool)
    (h : Memory.wfFrom n m = true) : Memory.wfFrom n (m.filter p) = true := by
  induction m generalizing n with
  | nil => rfl
  | cons c m ih =>
    simp only [Memory.wfFrom, Bool.and_eq_true, decide_eq_true_eq] at h
    rw [List.filter_cons]
    split
    · simp only [Memory.wfFrom, Bool.and_eq_true, decide_eq_true_eq]
      exact ⟨h.1, ih _ h.2⟩
    · exact Memory.wfFrom_mono (by omega) (ih _ h.2)

theorem Memory.wfFrom_insert (n : Nat) (m : Memory) (a : Nat) (v : Byte) (hv : v ≠ Memory.erased)
    (ha : n ≤ a) (h : Memory.wfFrom n m = true) : Memory.wfFrom n (Memory.insert m a v) = true := by
  induction m generalizing n with
  | nil => simp [Memory.insert, Memory.wfFrom, ha, hv]
  | cons c m ih =>
    obtain ⟨k, w⟩ := c
    simp only [Memory.wfFrom, Bool.and_eq_true, decide_eq_true_eq] at h
    unfold Memory.insert
    split
    · next hk =>
      simp only [Memory.wfFrom, Bool.and_eq_true, decide_eq_true_eq]
      exact ⟨⟨ha, by simpa using hv⟩, ⟨by omega, h.1.2⟩, h.2⟩
    · split
      · next hk hka =>
        subst hka
        simp only [Memory.wfFrom, Bool.and_eq_true, decide_eq_true_eq]
        exact ⟨⟨ha, by simpa using hv⟩, h.2⟩
      · simp only [Memory.wfFrom, Bool.and_eq_true, decide_eq_true_eq]
        exact ⟨h.1, ih (k + 1) (by omega) h.2⟩

theorem Memory.mem_insert {m : Memory} {a : Nat} {v : Byte} {c : Host.Cell}
    (h : c ∈ Memory.insert m a v) : c = (a, v) ∨ c ∈ m := by
  induction m with
  | nil => simpa [Memory.insert] using h
  | cons d m ih =>
    obtain ⟨k, w⟩ := d
    unfold Memory.insert at h
    split at h
    · simpa using h
    · split at h
      · rcases List.mem_cons.1 h with h | h
        · exact .inl h
        · exact .inr (List.mem_cons_of_mem _ h)
      · rcases List.mem_cons.1 h with h | h
        · exact .inr (by simp [h])
        · rcases ih h with h | h
          · exact .inl h
          · exact .inr (List.mem_cons_of_mem _ h)

theorem Memory.wf_filter (m : Memory) (p : Host.Cell → Bool) (h : m.wf = true) :
    Memory.wf (m.filter p) = true := by
  simp only [Memory.wf, Bool.and_eq_true, List.all_eq_true] at h ⊢
  exact ⟨Memory.wfFrom_filter _ _ _ h.1, fun c hc => h.2 c (List.mem_of_mem_filter hc)⟩

/-- A write keeps the canonical form. -/
theorem Memory.wf_write (m : Memory) (a : Nat) (v : Byte) (ha : a < Config.storeBytes)
    (h : m.wf = true) : (m.write a v).wf = true := by
  unfold Memory.write
  split
  · exact Memory.wf_filter _ _ h
  · next hv =>
    simp only [Memory.wf, Bool.and_eq_true, List.all_eq_true, decide_eq_true_eq] at h ⊢
    refine ⟨Memory.wfFrom_insert _ _ _ _ hv (Nat.zero_le _) h.1, fun c hc => ?_⟩
    rcases Memory.mem_insert hc with rfl | hc
    · exact ha
    · exact h.2 c hc

/-- A program within the store keeps the canonical form. -/
theorem Memory.wf_program (m : Memory) (a : Nat) (vs : List Byte)
    (ha : a + vs.length ≤ Config.storeBytes) (h : m.wf = true) : (m.program a vs).wf = true := by
  induction vs generalizing m a with
  | nil => exact h
  | cons v vs ih =>
    simp only [List.length_cons] at ha
    exact ih _ _ (by omega) (Memory.wf_write _ _ _ (by omega) h)

/-- An erase keeps the canonical form. -/
theorem Memory.wf_eraseFrame (m : Memory) (f : Nat) (h : m.wf = true) : (m.eraseFrame f).wf = true :=
  Memory.wf_filter _ _ h

/-- An interrupted erase keeps the canonical form. -/
theorem Memory.wf_interruptErase (m : Memory) (d : Nat) (p : Nat → Bool) (h : m.wf = true) :
    (m.interruptErase d p).wf = true := Memory.wf_filter _ _ h

/-- Bytes of an interrupted word within the store keep the canonical form. -/
theorem Memory.wf_interruptWord (m : Memory) (d a : Nat) (vs : List Byte)
    (ha : a + vs.length ≤ Config.storeBytes) (h : m.wf = true) :
    (m.interruptWord d a vs).wf = true := by
  induction vs generalizing m a with
  | nil => exact h
  | cons v vs ih =>
    simp only [List.length_cons] at ha
    unfold Memory.interruptWord
    refine ih _ _ (by omega) ?_
    split
    · exact h
    · exact Memory.wf_write _ _ _ (by omega) h

end Sys2Proof.Machine
end

