-- ==== Sys2Proof/Laws/State.lean ====
section
/-! SUPPORT. One lemma per field and update of State, so that no proof unfolds a record update. -/

namespace Sys2Proof.Machine

@[simp] theorem State.modCtx_store (s : State) (p : Ctx) (f : Context → Context) :
    (s.modCtx p f).store = s.store := rfl
@[simp] theorem State.modCtx_cells (s : State) (p : Ctx) (f : Context → Context) :
    (s.modCtx p f).cells = s.cells := rfl
@[simp] theorem State.modCtx_mix (s : State) (p : Ctx) (f : Context → Context) :
    (s.modCtx p f).mix = s.mix := rfl
@[simp] theorem State.modCtx_out (s : State) (p : Ctx) (f : Context → Context) :
    (s.modCtx p f).out = s.out := rfl
@[simp] theorem State.modCtx_trig (s : State) (p : Ctx) (f : Context → Context) :
    (s.modCtx p f).trig = s.trig := rfl
@[simp] theorem State.modCtx_clk (s : State) (p : Ctx) (f : Context → Context) :
    (s.modCtx p f).clk = s.clk := rfl
@[simp] theorem State.modCtx_link (s : State) (p : Ctx) (f : Context → Context) :
    (s.modCtx p f).link = s.link := rfl
@[simp] theorem State.modCtx_reports (s : State) (p : Ctx) (f : Context → Context) :
    (s.modCtx p f).reports = s.reports := rfl
@[simp] theorem State.modCtx_posts (s : State) (p : Ctx) (f : Context → Context) :
    (s.modCtx p f).posts = s.posts := rfl
@[simp] theorem State.modCtx_owed (s : State) (p : Ctx) (f : Context → Context) :
    (s.modCtx p f).owed = s.owed := rfl
@[simp] theorem State.modCtx_free (s : State) (p : Ctx) (f : Context → Context) :
    (s.modCtx p f).free = s.free := rfl
@[simp] theorem State.modCtx_pending (s : State) (p : Ctx) (f : Context → Context) :
    (s.modCtx p f).pending = s.pending := rfl
@[simp] theorem State.modMix_store (s : State) (ch : Chan) (f : MixChannel → MixChannel) :
    (s.modMix ch f).store = s.store := rfl
@[simp] theorem State.modMix_contexts (s : State) (ch : Chan) (f : MixChannel → MixChannel) :
    (s.modMix ch f).contexts = s.contexts := rfl
@[simp] theorem State.modMix_cells (s : State) (ch : Chan) (f : MixChannel → MixChannel) :
    (s.modMix ch f).cells = s.cells := rfl
@[simp] theorem State.modMix_out (s : State) (ch : Chan) (f : MixChannel → MixChannel) :
    (s.modMix ch f).out = s.out := rfl
@[simp] theorem State.modMix_trig (s : State) (ch : Chan) (f : MixChannel → MixChannel) :
    (s.modMix ch f).trig = s.trig := rfl
@[simp] theorem State.modMix_clk (s : State) (ch : Chan) (f : MixChannel → MixChannel) :
    (s.modMix ch f).clk = s.clk := rfl
@[simp] theorem State.modMix_link (s : State) (ch : Chan) (f : MixChannel → MixChannel) :
    (s.modMix ch f).link = s.link := rfl
@[simp] theorem State.modMix_reports (s : State) (ch : Chan) (f : MixChannel → MixChannel) :
    (s.modMix ch f).reports = s.reports := rfl
@[simp] theorem State.modMix_posts (s : State) (ch : Chan) (f : MixChannel → MixChannel) :
    (s.modMix ch f).posts = s.posts := rfl
@[simp] theorem State.modMix_owed (s : State) (ch : Chan) (f : MixChannel → MixChannel) :
    (s.modMix ch f).owed = s.owed := rfl
@[simp] theorem State.modMix_free (s : State) (ch : Chan) (f : MixChannel → MixChannel) :
    (s.modMix ch f).free = s.free := rfl
@[simp] theorem State.modMix_pending (s : State) (ch : Chan) (f : MixChannel → MixChannel) :
    (s.modMix ch f).pending = s.pending := rfl
@[simp] theorem State.modOut_store (s : State) (ch : Chan) (f : OutChannel → OutChannel) :
    (s.modOut ch f).store = s.store := rfl
@[simp] theorem State.modOut_contexts (s : State) (ch : Chan) (f : OutChannel → OutChannel) :
    (s.modOut ch f).contexts = s.contexts := rfl
@[simp] theorem State.modOut_cells (s : State) (ch : Chan) (f : OutChannel → OutChannel) :
    (s.modOut ch f).cells = s.cells := rfl
@[simp] theorem State.modOut_mix (s : State) (ch : Chan) (f : OutChannel → OutChannel) :
    (s.modOut ch f).mix = s.mix := rfl
@[simp] theorem State.modOut_trig (s : State) (ch : Chan) (f : OutChannel → OutChannel) :
    (s.modOut ch f).trig = s.trig := rfl
@[simp] theorem State.modOut_clk (s : State) (ch : Chan) (f : OutChannel → OutChannel) :
    (s.modOut ch f).clk = s.clk := rfl
@[simp] theorem State.modOut_link (s : State) (ch : Chan) (f : OutChannel → OutChannel) :
    (s.modOut ch f).link = s.link := rfl
@[simp] theorem State.modOut_reports (s : State) (ch : Chan) (f : OutChannel → OutChannel) :
    (s.modOut ch f).reports = s.reports := rfl
@[simp] theorem State.modOut_posts (s : State) (ch : Chan) (f : OutChannel → OutChannel) :
    (s.modOut ch f).posts = s.posts := rfl
@[simp] theorem State.modOut_owed (s : State) (ch : Chan) (f : OutChannel → OutChannel) :
    (s.modOut ch f).owed = s.owed := rfl
@[simp] theorem State.modOut_free (s : State) (ch : Chan) (f : OutChannel → OutChannel) :
    (s.modOut ch f).free = s.free := rfl
@[simp] theorem State.modOut_pending (s : State) (ch : Chan) (f : OutChannel → OutChannel) :
    (s.modOut ch f).pending = s.pending := rfl
@[simp] theorem State.mapOut_store (s : State) (f : Chan → OutChannel → OutChannel) :
    (s.mapOut f).store = s.store := rfl
@[simp] theorem State.mapOut_contexts (s : State) (f : Chan → OutChannel → OutChannel) :
    (s.mapOut f).contexts = s.contexts := rfl
@[simp] theorem State.mapOut_cells (s : State) (f : Chan → OutChannel → OutChannel) :
    (s.mapOut f).cells = s.cells := rfl
@[simp] theorem State.mapOut_mix (s : State) (f : Chan → OutChannel → OutChannel) :
    (s.mapOut f).mix = s.mix := rfl
@[simp] theorem State.mapOut_trig (s : State) (f : Chan → OutChannel → OutChannel) :
    (s.mapOut f).trig = s.trig := rfl
@[simp] theorem State.mapOut_clk (s : State) (f : Chan → OutChannel → OutChannel) :
    (s.mapOut f).clk = s.clk := rfl
@[simp] theorem State.mapOut_link (s : State) (f : Chan → OutChannel → OutChannel) :
    (s.mapOut f).link = s.link := rfl
@[simp] theorem State.mapOut_reports (s : State) (f : Chan → OutChannel → OutChannel) :
    (s.mapOut f).reports = s.reports := rfl
@[simp] theorem State.mapOut_posts (s : State) (f : Chan → OutChannel → OutChannel) :
    (s.mapOut f).posts = s.posts := rfl
@[simp] theorem State.mapOut_owed (s : State) (f : Chan → OutChannel → OutChannel) :
    (s.mapOut f).owed = s.owed := rfl
@[simp] theorem State.mapOut_free (s : State) (f : Chan → OutChannel → OutChannel) :
    (s.mapOut f).free = s.free := rfl
@[simp] theorem State.mapOut_pending (s : State) (f : Chan → OutChannel → OutChannel) :
    (s.mapOut f).pending = s.pending := rfl
@[simp] theorem State.modTrigger_store (s : State) (l : Line) (f : Trigger → Trigger) :
    (s.modTrigger l f).store = s.store := rfl
@[simp] theorem State.modTrigger_contexts (s : State) (l : Line) (f : Trigger → Trigger) :
    (s.modTrigger l f).contexts = s.contexts := rfl
@[simp] theorem State.modTrigger_cells (s : State) (l : Line) (f : Trigger → Trigger) :
    (s.modTrigger l f).cells = s.cells := rfl
@[simp] theorem State.modTrigger_mix (s : State) (l : Line) (f : Trigger → Trigger) :
    (s.modTrigger l f).mix = s.mix := rfl
@[simp] theorem State.modTrigger_out (s : State) (l : Line) (f : Trigger → Trigger) :
    (s.modTrigger l f).out = s.out := rfl
@[simp] theorem State.modTrigger_clk (s : State) (l : Line) (f : Trigger → Trigger) :
    (s.modTrigger l f).clk = s.clk := rfl
@[simp] theorem State.modTrigger_link (s : State) (l : Line) (f : Trigger → Trigger) :
    (s.modTrigger l f).link = s.link := rfl
@[simp] theorem State.modTrigger_reports (s : State) (l : Line) (f : Trigger → Trigger) :
    (s.modTrigger l f).reports = s.reports := rfl
@[simp] theorem State.modTrigger_posts (s : State) (l : Line) (f : Trigger → Trigger) :
    (s.modTrigger l f).posts = s.posts := rfl
@[simp] theorem State.modTrigger_owed (s : State) (l : Line) (f : Trigger → Trigger) :
    (s.modTrigger l f).owed = s.owed := rfl
@[simp] theorem State.modTrigger_free (s : State) (l : Line) (f : Trigger → Trigger) :
    (s.modTrigger l f).free = s.free := rfl
@[simp] theorem State.modTrigger_pending (s : State) (l : Line) (f : Trigger → Trigger) :
    (s.modTrigger l f).pending = s.pending := rfl
@[simp] theorem State.modLine_store (s : State) (l : Line) (f : LineFilter → LineFilter) :
    (s.modLine l f).store = s.store := rfl
@[simp] theorem State.modLine_contexts (s : State) (l : Line) (f : LineFilter → LineFilter) :
    (s.modLine l f).contexts = s.contexts := rfl
@[simp] theorem State.modLine_cells (s : State) (l : Line) (f : LineFilter → LineFilter) :
    (s.modLine l f).cells = s.cells := rfl
@[simp] theorem State.modLine_mix (s : State) (l : Line) (f : LineFilter → LineFilter) :
    (s.modLine l f).mix = s.mix := rfl
@[simp] theorem State.modLine_out (s : State) (l : Line) (f : LineFilter → LineFilter) :
    (s.modLine l f).out = s.out := rfl
@[simp] theorem State.modLine_clk (s : State) (l : Line) (f : LineFilter → LineFilter) :
    (s.modLine l f).clk = s.clk := rfl
@[simp] theorem State.modLine_link (s : State) (l : Line) (f : LineFilter → LineFilter) :
    (s.modLine l f).link = s.link := rfl
@[simp] theorem State.modLine_reports (s : State) (l : Line) (f : LineFilter → LineFilter) :
    (s.modLine l f).reports = s.reports := rfl
@[simp] theorem State.modLine_posts (s : State) (l : Line) (f : LineFilter → LineFilter) :
    (s.modLine l f).posts = s.posts := rfl
@[simp] theorem State.modLine_owed (s : State) (l : Line) (f : LineFilter → LineFilter) :
    (s.modLine l f).owed = s.owed := rfl
@[simp] theorem State.modLine_free (s : State) (l : Line) (f : LineFilter → LineFilter) :
    (s.modLine l f).free = s.free := rfl
@[simp] theorem State.modLine_pending (s : State) (l : Line) (f : LineFilter → LineFilter) :
    (s.modLine l f).pending = s.pending := rfl
@[simp] theorem State.modMatcher_store (s : State) (m : Fin 2) (f : Matcher → Matcher) :
    (s.modMatcher m f).store = s.store := rfl
@[simp] theorem State.modMatcher_contexts (s : State) (m : Fin 2) (f : Matcher → Matcher) :
    (s.modMatcher m f).contexts = s.contexts := rfl
@[simp] theorem State.modMatcher_cells (s : State) (m : Fin 2) (f : Matcher → Matcher) :
    (s.modMatcher m f).cells = s.cells := rfl
@[simp] theorem State.modMatcher_mix (s : State) (m : Fin 2) (f : Matcher → Matcher) :
    (s.modMatcher m f).mix = s.mix := rfl
@[simp] theorem State.modMatcher_out (s : State) (m : Fin 2) (f : Matcher → Matcher) :
    (s.modMatcher m f).out = s.out := rfl
@[simp] theorem State.modMatcher_clk (s : State) (m : Fin 2) (f : Matcher → Matcher) :
    (s.modMatcher m f).clk = s.clk := rfl
@[simp] theorem State.modMatcher_link (s : State) (m : Fin 2) (f : Matcher → Matcher) :
    (s.modMatcher m f).link = s.link := rfl
@[simp] theorem State.modMatcher_reports (s : State) (m : Fin 2) (f : Matcher → Matcher) :
    (s.modMatcher m f).reports = s.reports := rfl
@[simp] theorem State.modMatcher_posts (s : State) (m : Fin 2) (f : Matcher → Matcher) :
    (s.modMatcher m f).posts = s.posts := rfl
@[simp] theorem State.modMatcher_owed (s : State) (m : Fin 2) (f : Matcher → Matcher) :
    (s.modMatcher m f).owed = s.owed := rfl
@[simp] theorem State.modMatcher_free (s : State) (m : Fin 2) (f : Matcher → Matcher) :
    (s.modMatcher m f).free = s.free := rfl
@[simp] theorem State.modMatcher_pending (s : State) (m : Fin 2) (f : Matcher → Matcher) :
    (s.modMatcher m f).pending = s.pending := rfl
@[simp] theorem State.setQueue_store (s : State) (qs : List DeliveryRecord) :
    (s.setQueue qs).store = s.store := rfl
@[simp] theorem State.setQueue_contexts (s : State) (qs : List DeliveryRecord) :
    (s.setQueue qs).contexts = s.contexts := rfl
@[simp] theorem State.setQueue_cells (s : State) (qs : List DeliveryRecord) :
    (s.setQueue qs).cells = s.cells := rfl
@[simp] theorem State.setQueue_mix (s : State) (qs : List DeliveryRecord) :
    (s.setQueue qs).mix = s.mix := rfl
@[simp] theorem State.setQueue_out (s : State) (qs : List DeliveryRecord) :
    (s.setQueue qs).out = s.out := rfl
@[simp] theorem State.setQueue_clk (s : State) (qs : List DeliveryRecord) :
    (s.setQueue qs).clk = s.clk := rfl
@[simp] theorem State.setQueue_link (s : State) (qs : List DeliveryRecord) :
    (s.setQueue qs).link = s.link := rfl
@[simp] theorem State.setQueue_reports (s : State) (qs : List DeliveryRecord) :
    (s.setQueue qs).reports = s.reports := rfl
@[simp] theorem State.setQueue_posts (s : State) (qs : List DeliveryRecord) :
    (s.setQueue qs).posts = s.posts := rfl
@[simp] theorem State.setQueue_owed (s : State) (qs : List DeliveryRecord) :
    (s.setQueue qs).owed = s.owed := rfl
@[simp] theorem State.setQueue_free (s : State) (qs : List DeliveryRecord) :
    (s.setQueue qs).free = s.free := rfl
@[simp] theorem State.setQueue_pending (s : State) (qs : List DeliveryRecord) :
    (s.setQueue qs).pending = s.pending := rfl
@[simp] theorem State.setKnown_store (s : State) (p : Ctx) (ph : Phase) :
    (s.setKnown p ph).store = s.store := rfl
@[simp] theorem State.setKnown_contexts (s : State) (p : Ctx) (ph : Phase) :
    (s.setKnown p ph).contexts = s.contexts := rfl
@[simp] theorem State.setKnown_cells (s : State) (p : Ctx) (ph : Phase) :
    (s.setKnown p ph).cells = s.cells := rfl
@[simp] theorem State.setKnown_mix (s : State) (p : Ctx) (ph : Phase) :
    (s.setKnown p ph).mix = s.mix := rfl
@[simp] theorem State.setKnown_out (s : State) (p : Ctx) (ph : Phase) :
    (s.setKnown p ph).out = s.out := rfl
@[simp] theorem State.setKnown_clk (s : State) (p : Ctx) (ph : Phase) :
    (s.setKnown p ph).clk = s.clk := rfl
@[simp] theorem State.setKnown_link (s : State) (p : Ctx) (ph : Phase) :
    (s.setKnown p ph).link = s.link := rfl
@[simp] theorem State.setKnown_reports (s : State) (p : Ctx) (ph : Phase) :
    (s.setKnown p ph).reports = s.reports := rfl
@[simp] theorem State.setKnown_posts (s : State) (p : Ctx) (ph : Phase) :
    (s.setKnown p ph).posts = s.posts := rfl
@[simp] theorem State.setKnown_owed (s : State) (p : Ctx) (ph : Phase) :
    (s.setKnown p ph).owed = s.owed := rfl
@[simp] theorem State.setKnown_free (s : State) (p : Ctx) (ph : Phase) :
    (s.setKnown p ph).free = s.free := rfl
@[simp] theorem State.setKnown_pending (s : State) (p : Ctx) (ph : Phase) :
    (s.setKnown p ph).pending = s.pending := rfl
@[simp] theorem State.setGroup_store (s : State) (g : Fin 3) (v : Group) :
    (s.setGroup g v).store = s.store := rfl
@[simp] theorem State.setGroup_contexts (s : State) (g : Fin 3) (v : Group) :
    (s.setGroup g v).contexts = s.contexts := rfl
@[simp] theorem State.setGroup_cells (s : State) (g : Fin 3) (v : Group) :
    (s.setGroup g v).cells = s.cells := rfl
@[simp] theorem State.setGroup_mix (s : State) (g : Fin 3) (v : Group) :
    (s.setGroup g v).mix = s.mix := rfl
@[simp] theorem State.setGroup_out (s : State) (g : Fin 3) (v : Group) :
    (s.setGroup g v).out = s.out := rfl
@[simp] theorem State.setGroup_clk (s : State) (g : Fin 3) (v : Group) :
    (s.setGroup g v).clk = s.clk := rfl
@[simp] theorem State.setGroup_link (s : State) (g : Fin 3) (v : Group) :
    (s.setGroup g v).link = s.link := rfl
@[simp] theorem State.setGroup_reports (s : State) (g : Fin 3) (v : Group) :
    (s.setGroup g v).reports = s.reports := rfl
@[simp] theorem State.setGroup_posts (s : State) (g : Fin 3) (v : Group) :
    (s.setGroup g v).posts = s.posts := rfl
@[simp] theorem State.setGroup_owed (s : State) (g : Fin 3) (v : Group) :
    (s.setGroup g v).owed = s.owed := rfl
@[simp] theorem State.setGroup_free (s : State) (g : Fin 3) (v : Group) :
    (s.setGroup g v).free = s.free := rfl
@[simp] theorem State.setGroup_pending (s : State) (g : Fin 3) (v : Group) :
    (s.setGroup g v).pending = s.pending := rfl
@[simp] theorem State.modStore_contexts (s : State) (f : Store → Store) :
    (s.modStore f).contexts = s.contexts := rfl
@[simp] theorem State.modStore_cells (s : State) (f : Store → Store) :
    (s.modStore f).cells = s.cells := rfl
@[simp] theorem State.modStore_mix (s : State) (f : Store → Store) :
    (s.modStore f).mix = s.mix := rfl
@[simp] theorem State.modStore_out (s : State) (f : Store → Store) :
    (s.modStore f).out = s.out := rfl
@[simp] theorem State.modStore_trig (s : State) (f : Store → Store) :
    (s.modStore f).trig = s.trig := rfl
@[simp] theorem State.modStore_clk (s : State) (f : Store → Store) :
    (s.modStore f).clk = s.clk := rfl
@[simp] theorem State.modStore_link (s : State) (f : Store → Store) :
    (s.modStore f).link = s.link := rfl
@[simp] theorem State.modStore_reports (s : State) (f : Store → Store) :
    (s.modStore f).reports = s.reports := rfl
@[simp] theorem State.modStore_posts (s : State) (f : Store → Store) :
    (s.modStore f).posts = s.posts := rfl
@[simp] theorem State.modStore_owed (s : State) (f : Store → Store) :
    (s.modStore f).owed = s.owed := rfl
@[simp] theorem State.modStore_free (s : State) (f : Store → Store) :
    (s.modStore f).free = s.free := rfl
@[simp] theorem State.modStore_pending (s : State) (f : Store → Store) :
    (s.modStore f).pending = s.pending := rfl
@[simp] theorem State.modLink_store (s : State) (f : Link → Link) :
    (s.modLink f).store = s.store := rfl
@[simp] theorem State.modLink_contexts (s : State) (f : Link → Link) :
    (s.modLink f).contexts = s.contexts := rfl
@[simp] theorem State.modLink_cells (s : State) (f : Link → Link) :
    (s.modLink f).cells = s.cells := rfl
@[simp] theorem State.modLink_mix (s : State) (f : Link → Link) :
    (s.modLink f).mix = s.mix := rfl
@[simp] theorem State.modLink_out (s : State) (f : Link → Link) :
    (s.modLink f).out = s.out := rfl
@[simp] theorem State.modLink_trig (s : State) (f : Link → Link) :
    (s.modLink f).trig = s.trig := rfl
@[simp] theorem State.modLink_clk (s : State) (f : Link → Link) :
    (s.modLink f).clk = s.clk := rfl
@[simp] theorem State.modLink_reports (s : State) (f : Link → Link) :
    (s.modLink f).reports = s.reports := rfl
@[simp] theorem State.modLink_posts (s : State) (f : Link → Link) :
    (s.modLink f).posts = s.posts := rfl
@[simp] theorem State.modLink_owed (s : State) (f : Link → Link) :
    (s.modLink f).owed = s.owed := rfl
@[simp] theorem State.modLink_free (s : State) (f : Link → Link) :
    (s.modLink f).free = s.free := rfl
@[simp] theorem State.modLink_pending (s : State) (f : Link → Link) :
    (s.modLink f).pending = s.pending := rfl
@[simp] theorem State.modClk_store (s : State) (f : Clock → Clock) :
    (s.modClk f).store = s.store := rfl
@[simp] theorem State.modClk_contexts (s : State) (f : Clock → Clock) :
    (s.modClk f).contexts = s.contexts := rfl
@[simp] theorem State.modClk_cells (s : State) (f : Clock → Clock) :
    (s.modClk f).cells = s.cells := rfl
@[simp] theorem State.modClk_mix (s : State) (f : Clock → Clock) :
    (s.modClk f).mix = s.mix := rfl
@[simp] theorem State.modClk_out (s : State) (f : Clock → Clock) :
    (s.modClk f).out = s.out := rfl
@[simp] theorem State.modClk_trig (s : State) (f : Clock → Clock) :
    (s.modClk f).trig = s.trig := rfl
@[simp] theorem State.modClk_link (s : State) (f : Clock → Clock) :
    (s.modClk f).link = s.link := rfl
@[simp] theorem State.modClk_reports (s : State) (f : Clock → Clock) :
    (s.modClk f).reports = s.reports := rfl
@[simp] theorem State.modClk_posts (s : State) (f : Clock → Clock) :
    (s.modClk f).posts = s.posts := rfl
@[simp] theorem State.modClk_owed (s : State) (f : Clock → Clock) :
    (s.modClk f).owed = s.owed := rfl
@[simp] theorem State.modClk_free (s : State) (f : Clock → Clock) :
    (s.modClk f).free = s.free := rfl
@[simp] theorem State.modClk_pending (s : State) (f : Clock → Clock) :
    (s.modClk f).pending = s.pending := rfl
@[simp] theorem State.modOwed_store (s : State) (f : TicksOwed → TicksOwed) :
    (s.modOwed f).store = s.store := rfl
@[simp] theorem State.modOwed_contexts (s : State) (f : TicksOwed → TicksOwed) :
    (s.modOwed f).contexts = s.contexts := rfl
@[simp] theorem State.modOwed_cells (s : State) (f : TicksOwed → TicksOwed) :
    (s.modOwed f).cells = s.cells := rfl
@[simp] theorem State.modOwed_mix (s : State) (f : TicksOwed → TicksOwed) :
    (s.modOwed f).mix = s.mix := rfl
@[simp] theorem State.modOwed_out (s : State) (f : TicksOwed → TicksOwed) :
    (s.modOwed f).out = s.out := rfl
@[simp] theorem State.modOwed_trig (s : State) (f : TicksOwed → TicksOwed) :
    (s.modOwed f).trig = s.trig := rfl
@[simp] theorem State.modOwed_clk (s : State) (f : TicksOwed → TicksOwed) :
    (s.modOwed f).clk = s.clk := rfl
@[simp] theorem State.modOwed_link (s : State) (f : TicksOwed → TicksOwed) :
    (s.modOwed f).link = s.link := rfl
@[simp] theorem State.modOwed_reports (s : State) (f : TicksOwed → TicksOwed) :
    (s.modOwed f).reports = s.reports := rfl
@[simp] theorem State.modOwed_posts (s : State) (f : TicksOwed → TicksOwed) :
    (s.modOwed f).posts = s.posts := rfl
@[simp] theorem State.modOwed_free (s : State) (f : TicksOwed → TicksOwed) :
    (s.modOwed f).free = s.free := rfl
@[simp] theorem State.modOwed_pending (s : State) (f : TicksOwed → TicksOwed) :
    (s.modOwed f).pending = s.pending := rfl
@[simp] theorem State.reply_store (s : State) (r : Reply) :
    (s.reply r).store = s.store := rfl
@[simp] theorem State.reply_contexts (s : State) (r : Reply) :
    (s.reply r).contexts = s.contexts := rfl
@[simp] theorem State.reply_cells (s : State) (r : Reply) :
    (s.reply r).cells = s.cells := rfl
@[simp] theorem State.reply_mix (s : State) (r : Reply) :
    (s.reply r).mix = s.mix := rfl
@[simp] theorem State.reply_out (s : State) (r : Reply) :
    (s.reply r).out = s.out := rfl
@[simp] theorem State.reply_trig (s : State) (r : Reply) :
    (s.reply r).trig = s.trig := rfl
@[simp] theorem State.reply_clk (s : State) (r : Reply) :
    (s.reply r).clk = s.clk := rfl
@[simp] theorem State.reply_reports (s : State) (r : Reply) :
    (s.reply r).reports = s.reports := rfl
@[simp] theorem State.reply_posts (s : State) (r : Reply) :
    (s.reply r).posts = s.posts := rfl
@[simp] theorem State.reply_owed (s : State) (r : Reply) :
    (s.reply r).owed = s.owed := rfl
@[simp] theorem State.reply_free (s : State) (r : Reply) :
    (s.reply r).free = s.free := rfl
@[simp] theorem State.reply_pending (s : State) (r : Reply) :
    (s.reply r).pending = s.pending := rfl
@[simp] theorem State.report_store (s : State) (p : Ctx) (ph : Phase) :
    (s.report p ph).store = s.store := rfl
@[simp] theorem State.report_contexts (s : State) (p : Ctx) (ph : Phase) :
    (s.report p ph).contexts = s.contexts := rfl
@[simp] theorem State.report_cells (s : State) (p : Ctx) (ph : Phase) :
    (s.report p ph).cells = s.cells := rfl
@[simp] theorem State.report_mix (s : State) (p : Ctx) (ph : Phase) :
    (s.report p ph).mix = s.mix := rfl
@[simp] theorem State.report_out (s : State) (p : Ctx) (ph : Phase) :
    (s.report p ph).out = s.out := rfl
@[simp] theorem State.report_trig (s : State) (p : Ctx) (ph : Phase) :
    (s.report p ph).trig = s.trig := rfl
@[simp] theorem State.report_clk (s : State) (p : Ctx) (ph : Phase) :
    (s.report p ph).clk = s.clk := rfl
@[simp] theorem State.report_link (s : State) (p : Ctx) (ph : Phase) :
    (s.report p ph).link = s.link := rfl
@[simp] theorem State.report_posts (s : State) (p : Ctx) (ph : Phase) :
    (s.report p ph).posts = s.posts := rfl
@[simp] theorem State.report_owed (s : State) (p : Ctx) (ph : Phase) :
    (s.report p ph).owed = s.owed := rfl
@[simp] theorem State.report_free (s : State) (p : Ctx) (ph : Phase) :
    (s.report p ph).free = s.free := rfl
@[simp] theorem State.report_pending (s : State) (p : Ctx) (ph : Phase) :
    (s.report p ph).pending = s.pending := rfl
@[simp] theorem State.postTo_store (s : State) (ps : List Ctx) (e : EventId) :
    (s.postTo ps e).store = s.store := rfl
@[simp] theorem State.postTo_contexts (s : State) (ps : List Ctx) (e : EventId) :
    (s.postTo ps e).contexts = s.contexts := rfl
@[simp] theorem State.postTo_cells (s : State) (ps : List Ctx) (e : EventId) :
    (s.postTo ps e).cells = s.cells := rfl
@[simp] theorem State.postTo_mix (s : State) (ps : List Ctx) (e : EventId) :
    (s.postTo ps e).mix = s.mix := rfl
@[simp] theorem State.postTo_out (s : State) (ps : List Ctx) (e : EventId) :
    (s.postTo ps e).out = s.out := rfl
@[simp] theorem State.postTo_trig (s : State) (ps : List Ctx) (e : EventId) :
    (s.postTo ps e).trig = s.trig := rfl
@[simp] theorem State.postTo_clk (s : State) (ps : List Ctx) (e : EventId) :
    (s.postTo ps e).clk = s.clk := rfl
@[simp] theorem State.postTo_link (s : State) (ps : List Ctx) (e : EventId) :
    (s.postTo ps e).link = s.link := rfl
@[simp] theorem State.postTo_reports (s : State) (ps : List Ctx) (e : EventId) :
    (s.postTo ps e).reports = s.reports := rfl
@[simp] theorem State.postTo_owed (s : State) (ps : List Ctx) (e : EventId) :
    (s.postTo ps e).owed = s.owed := rfl
@[simp] theorem State.postTo_free (s : State) (ps : List Ctx) (e : EventId) :
    (s.postTo ps e).free = s.free := rfl
@[simp] theorem State.postTo_pending (s : State) (ps : List Ctx) (e : EventId) :
    (s.postTo ps e).pending = s.pending := rfl
@[simp] theorem State.withPending_store (s : State) (qs : List Instr) :
    (s.withPending qs).store = s.store := rfl
@[simp] theorem State.withPending_contexts (s : State) (qs : List Instr) :
    (s.withPending qs).contexts = s.contexts := rfl
@[simp] theorem State.withPending_cells (s : State) (qs : List Instr) :
    (s.withPending qs).cells = s.cells := rfl
@[simp] theorem State.withPending_mix (s : State) (qs : List Instr) :
    (s.withPending qs).mix = s.mix := rfl
@[simp] theorem State.withPending_out (s : State) (qs : List Instr) :
    (s.withPending qs).out = s.out := rfl
@[simp] theorem State.withPending_trig (s : State) (qs : List Instr) :
    (s.withPending qs).trig = s.trig := rfl
@[simp] theorem State.withPending_clk (s : State) (qs : List Instr) :
    (s.withPending qs).clk = s.clk := rfl
@[simp] theorem State.withPending_link (s : State) (qs : List Instr) :
    (s.withPending qs).link = s.link := rfl
@[simp] theorem State.withPending_reports (s : State) (qs : List Instr) :
    (s.withPending qs).reports = s.reports := rfl
@[simp] theorem State.withPending_posts (s : State) (qs : List Instr) :
    (s.withPending qs).posts = s.posts := rfl
@[simp] theorem State.withPending_owed (s : State) (qs : List Instr) :
    (s.withPending qs).owed = s.owed := rfl
@[simp] theorem State.withPending_free (s : State) (qs : List Instr) :
    (s.withPending qs).free = s.free := rfl
@[simp] theorem State.holdClaims_store (s : State) (p : Ctx) :
    (s.holdClaims p).store = s.store := rfl
@[simp] theorem State.holdClaims_contexts (s : State) (p : Ctx) :
    (s.holdClaims p).contexts = s.contexts := rfl
@[simp] theorem State.holdClaims_cells (s : State) (p : Ctx) :
    (s.holdClaims p).cells = s.cells := rfl
@[simp] theorem State.holdClaims_out (s : State) (p : Ctx) :
    (s.holdClaims p).out = s.out := rfl
@[simp] theorem State.holdClaims_trig (s : State) (p : Ctx) :
    (s.holdClaims p).trig = s.trig := rfl
@[simp] theorem State.holdClaims_clk (s : State) (p : Ctx) :
    (s.holdClaims p).clk = s.clk := rfl
@[simp] theorem State.holdClaims_link (s : State) (p : Ctx) :
    (s.holdClaims p).link = s.link := rfl
@[simp] theorem State.holdClaims_reports (s : State) (p : Ctx) :
    (s.holdClaims p).reports = s.reports := rfl
@[simp] theorem State.holdClaims_posts (s : State) (p : Ctx) :
    (s.holdClaims p).posts = s.posts := rfl
@[simp] theorem State.holdClaims_owed (s : State) (p : Ctx) :
    (s.holdClaims p).owed = s.owed := rfl
@[simp] theorem State.holdClaims_free (s : State) (p : Ctx) :
    (s.holdClaims p).free = s.free := rfl
@[simp] theorem State.holdClaims_pending (s : State) (p : Ctx) :
    (s.holdClaims p).pending = s.pending := rfl
@[simp] theorem State.endHold_store (s : State) (p : Ctx) :
    (s.endHold p).store = s.store := rfl
@[simp] theorem State.endHold_contexts (s : State) (p : Ctx) :
    (s.endHold p).contexts = s.contexts := rfl
@[simp] theorem State.endHold_cells (s : State) (p : Ctx) :
    (s.endHold p).cells = s.cells := rfl
@[simp] theorem State.endHold_out (s : State) (p : Ctx) :
    (s.endHold p).out = s.out := rfl
@[simp] theorem State.endHold_trig (s : State) (p : Ctx) :
    (s.endHold p).trig = s.trig := rfl
@[simp] theorem State.endHold_clk (s : State) (p : Ctx) :
    (s.endHold p).clk = s.clk := rfl
@[simp] theorem State.endHold_link (s : State) (p : Ctx) :
    (s.endHold p).link = s.link := rfl
@[simp] theorem State.endHold_reports (s : State) (p : Ctx) :
    (s.endHold p).reports = s.reports := rfl
@[simp] theorem State.endHold_posts (s : State) (p : Ctx) :
    (s.endHold p).posts = s.posts := rfl
@[simp] theorem State.endHold_owed (s : State) (p : Ctx) :
    (s.endHold p).owed = s.owed := rfl
@[simp] theorem State.endHold_free (s : State) (p : Ctx) :
    (s.endHold p).free = s.free := rfl
@[simp] theorem State.endHold_pending (s : State) (p : Ctx) :
    (s.endHold p).pending = s.pending := rfl

/-! ### The field that an update is about -/

@[simp] theorem State.modStore_store (s : State) (f : Store → Store) :
    (s.modStore f).store = f s.store := rfl
@[simp] theorem State.modLink_link (s : State) (f : Link → Link) :
    (s.modLink f).link = f s.link := rfl
@[simp] theorem State.modClk_clk (s : State) (f : Clock → Clock) : (s.modClk f).clk = f s.clk := rfl
@[simp] theorem State.modOwed_owed (s : State) (f : TicksOwed → TicksOwed) :
    (s.modOwed f).owed = f s.owed := rfl
@[simp] theorem State.withPending_pending (s : State) (qs : List Instr) :
    (s.withPending qs).pending = qs := rfl
@[simp] theorem State.report_reports (s : State) (p : Ctx) (ph : Phase) :
    (s.report p ph).reports = s.reports ++ [{ p, phase := ph }] := rfl
@[simp] theorem State.postTo_posts (s : State) (ps : List Ctx) (e : EventId) :
    (s.postTo ps e).posts = s.posts ++ ps.map (fun p => (p, e)) := rfl
@[simp] theorem State.setQueue_queue (s : State) (qs : List DeliveryRecord) :
    (s.setQueue qs).trig.queue = qs := rfl

@[simp] theorem State.modCtx_ctx (s : State) (p q : Ctx) (f : Context → Context) :
    (s.modCtx p f).ctx q = if q = p then f (s.ctx p) else s.ctx q := by
  simp only [State.modCtx, State.ctx, Fin.getElem_fin, Vector.getElem_set]
  by_cases h : q = p <;> simp [h, eq_comm]
  intro hp; exact absurd (Fin.ext hp.symm) h

@[simp] theorem State.modMix_mixCh (s : State) (ch c : Chan) (f : MixChannel → MixChannel) :
    (s.modMix ch f).mixCh c = if c = ch then f (s.mixCh ch) else s.mixCh c := by
  simp only [State.modMix, State.mixCh, Fin.getElem_fin, Vector.getElem_set]
  by_cases h : c = ch <;> simp [h, eq_comm]
  intro hp; exact absurd (Fin.ext hp.symm) h

@[simp] theorem State.modOut_outCh (s : State) (ch c : Chan) (f : OutChannel → OutChannel) :
    (s.modOut ch f).outCh c = if c = ch then f (s.outCh ch) else s.outCh c := by
  simp only [State.modOut, State.outCh, Fin.getElem_fin, Vector.getElem_set]
  by_cases h : c = ch <;> simp [h, eq_comm]
  intro hp; exact absurd (Fin.ext hp.symm) h

@[simp] theorem State.mapOut_outCh (s : State) (c : Chan) (f : Chan → OutChannel → OutChannel) :
    (s.mapOut f).outCh c = f c (s.outCh c) := by
  simp [State.mapOut, State.outCh]

@[simp] theorem State.modTrigger_trigger (s : State) (l k : Line) (f : Trigger → Trigger) :
    (s.modTrigger l f).trigger k = if k = l then f (s.trigger l) else s.trigger k := by
  simp only [State.modTrigger, State.trigger, Fin.getElem_fin, Vector.getElem_set]
  by_cases h : k = l <;> simp [h, eq_comm]
  intro hp; exact absurd (Fin.ext hp.symm) h

/-! ### Views of a record under an update of another field -/

@[simp] theorem State.modCtx_mixCh_same (s : State) (p : Ctx) (f : Context → Context) (c : Chan) :
    (s.modCtx p f).mixCh c = s.mixCh c := rfl
@[simp] theorem State.modCtx_outCh_same (s : State) (p : Ctx) (f : Context → Context) (c : Chan) :
    (s.modCtx p f).outCh c = s.outCh c := rfl
@[simp] theorem State.modCtx_trigger_same (s : State) (p : Ctx) (f : Context → Context) (k : Line) :
    (s.modCtx p f).trigger k = s.trigger k := rfl
@[simp] theorem State.modMix_ctx_same (s : State) (ch : Chan) (f : MixChannel → MixChannel) (q : Ctx) :
    (s.modMix ch f).ctx q = s.ctx q := rfl
@[simp] theorem State.modMix_outCh_same (s : State) (ch : Chan) (f : MixChannel → MixChannel) (c : Chan) :
    (s.modMix ch f).outCh c = s.outCh c := rfl
@[simp] theorem State.modMix_trigger_same (s : State) (ch : Chan) (f : MixChannel → MixChannel) (k : Line) :
    (s.modMix ch f).trigger k = s.trigger k := rfl
@[simp] theorem State.modOut_ctx_same (s : State) (ch : Chan) (f : OutChannel → OutChannel) (q : Ctx) :
    (s.modOut ch f).ctx q = s.ctx q := rfl
@[simp] theorem State.modOut_mixCh_same (s : State) (ch : Chan) (f : OutChannel → OutChannel) (c : Chan) :
    (s.modOut ch f).mixCh c = s.mixCh c := rfl
@[simp] theorem State.modOut_trigger_same (s : State) (ch : Chan) (f : OutChannel → OutChannel) (k : Line) :
    (s.modOut ch f).trigger k = s.trigger k := rfl
@[simp] theorem State.mapOut_ctx_same (s : State) (f : Chan → OutChannel → OutChannel) (q : Ctx) :
    (s.mapOut f).ctx q = s.ctx q := rfl
@[simp] theorem State.mapOut_mixCh_same (s : State) (f : Chan → OutChannel → OutChannel) (c : Chan) :
    (s.mapOut f).mixCh c = s.mixCh c := rfl
@[simp] theorem State.mapOut_trigger_same (s : State) (f : Chan → OutChannel → OutChannel) (k : Line) :
    (s.mapOut f).trigger k = s.trigger k := rfl
@[simp] theorem State.modTrigger_ctx_same (s : State) (l : Line) (f : Trigger → Trigger) (q : Ctx) :
    (s.modTrigger l f).ctx q = s.ctx q := rfl
@[simp] theorem State.modTrigger_mixCh_same (s : State) (l : Line) (f : Trigger → Trigger) (c : Chan) :
    (s.modTrigger l f).mixCh c = s.mixCh c := rfl
@[simp] theorem State.modTrigger_outCh_same (s : State) (l : Line) (f : Trigger → Trigger) (c : Chan) :
    (s.modTrigger l f).outCh c = s.outCh c := rfl
@[simp] theorem State.modLine_ctx_same (s : State) (l : Line) (f : LineFilter → LineFilter) (q : Ctx) :
    (s.modLine l f).ctx q = s.ctx q := rfl
@[simp] theorem State.modLine_mixCh_same (s : State) (l : Line) (f : LineFilter → LineFilter) (c : Chan) :
    (s.modLine l f).mixCh c = s.mixCh c := rfl
@[simp] theorem State.modLine_outCh_same (s : State) (l : Line) (f : LineFilter → LineFilter) (c : Chan) :
    (s.modLine l f).outCh c = s.outCh c := rfl
@[simp] theorem State.modMatcher_ctx_same (s : State) (m : Fin 2) (f : Matcher → Matcher) (q : Ctx) :
    (s.modMatcher m f).ctx q = s.ctx q := rfl
@[simp] theorem State.modMatcher_mixCh_same (s : State) (m : Fin 2) (f : Matcher → Matcher) (c : Chan) :
    (s.modMatcher m f).mixCh c = s.mixCh c := rfl
@[simp] theorem State.modMatcher_outCh_same (s : State) (m : Fin 2) (f : Matcher → Matcher) (c : Chan) :
    (s.modMatcher m f).outCh c = s.outCh c := rfl
@[simp] theorem State.setQueue_ctx_same (s : State) (qs : List DeliveryRecord) (q : Ctx) :
    (s.setQueue qs).ctx q = s.ctx q := rfl
@[simp] theorem State.setQueue_mixCh_same (s : State) (qs : List DeliveryRecord) (c : Chan) :
    (s.setQueue qs).mixCh c = s.mixCh c := rfl
@[simp] theorem State.setQueue_outCh_same (s : State) (qs : List DeliveryRecord) (c : Chan) :
    (s.setQueue qs).outCh c = s.outCh c := rfl
@[simp] theorem State.setKnown_ctx_same (s : State) (p : Ctx) (ph : Phase) (q : Ctx) :
    (s.setKnown p ph).ctx q = s.ctx q := rfl
@[simp] theorem State.setKnown_mixCh_same (s : State) (p : Ctx) (ph : Phase) (c : Chan) :
    (s.setKnown p ph).mixCh c = s.mixCh c := rfl
@[simp] theorem State.setKnown_outCh_same (s : State) (p : Ctx) (ph : Phase) (c : Chan) :
    (s.setKnown p ph).outCh c = s.outCh c := rfl
@[simp] theorem State.setGroup_ctx_same (s : State) (g : Fin 3) (v : Group) (q : Ctx) :
    (s.setGroup g v).ctx q = s.ctx q := rfl
@[simp] theorem State.setGroup_mixCh_same (s : State) (g : Fin 3) (v : Group) (c : Chan) :
    (s.setGroup g v).mixCh c = s.mixCh c := rfl
@[simp] theorem State.setGroup_outCh_same (s : State) (g : Fin 3) (v : Group) (c : Chan) :
    (s.setGroup g v).outCh c = s.outCh c := rfl
@[simp] theorem State.modStore_ctx_same (s : State) (f : Store → Store) (q : Ctx) :
    (s.modStore f).ctx q = s.ctx q := rfl
@[simp] theorem State.modStore_mixCh_same (s : State) (f : Store → Store) (c : Chan) :
    (s.modStore f).mixCh c = s.mixCh c := rfl
@[simp] theorem State.modStore_outCh_same (s : State) (f : Store → Store) (c : Chan) :
    (s.modStore f).outCh c = s.outCh c := rfl
@[simp] theorem State.modStore_trigger_same (s : State) (f : Store → Store) (k : Line) :
    (s.modStore f).trigger k = s.trigger k := rfl
@[simp] theorem State.modLink_ctx_same (s : State) (f : Link → Link) (q : Ctx) :
    (s.modLink f).ctx q = s.ctx q := rfl
@[simp] theorem State.modLink_mixCh_same (s : State) (f : Link → Link) (c : Chan) :
    (s.modLink f).mixCh c = s.mixCh c := rfl
@[simp] theorem State.modLink_outCh_same (s : State) (f : Link → Link) (c : Chan) :
    (s.modLink f).outCh c = s.outCh c := rfl
@[simp] theorem State.modLink_trigger_same (s : State) (f : Link → Link) (k : Line) :
    (s.modLink f).trigger k = s.trigger k := rfl
@[simp] theorem State.modClk_ctx_same (s : State) (f : Clock → Clock) (q : Ctx) :
    (s.modClk f).ctx q = s.ctx q := rfl
@[simp] theorem State.modClk_mixCh_same (s : State) (f : Clock → Clock) (c : Chan) :
    (s.modClk f).mixCh c = s.mixCh c := rfl
@[simp] theorem State.modClk_outCh_same (s : State) (f : Clock → Clock) (c : Chan) :
    (s.modClk f).outCh c = s.outCh c := rfl
@[simp] theorem State.modClk_trigger_same (s : State) (f : Clock → Clock) (k : Line) :
    (s.modClk f).trigger k = s.trigger k := rfl
@[simp] theorem State.modOwed_ctx_same (s : State) (f : TicksOwed → TicksOwed) (q : Ctx) :
    (s.modOwed f).ctx q = s.ctx q := rfl
@[simp] theorem State.modOwed_mixCh_same (s : State) (f : TicksOwed → TicksOwed) (c : Chan) :
    (s.modOwed f).mixCh c = s.mixCh c := rfl
@[simp] theorem State.modOwed_outCh_same (s : State) (f : TicksOwed → TicksOwed) (c : Chan) :
    (s.modOwed f).outCh c = s.outCh c := rfl
@[simp] theorem State.modOwed_trigger_same (s : State) (f : TicksOwed → TicksOwed) (k : Line) :
    (s.modOwed f).trigger k = s.trigger k := rfl
@[simp] theorem State.reply_ctx_same (s : State) (r : Reply) (q : Ctx) :
    (s.reply r).ctx q = s.ctx q := rfl
@[simp] theorem State.reply_mixCh_same (s : State) (r : Reply) (c : Chan) :
    (s.reply r).mixCh c = s.mixCh c := rfl
@[simp] theorem State.reply_outCh_same (s : State) (r : Reply) (c : Chan) :
    (s.reply r).outCh c = s.outCh c := rfl
@[simp] theorem State.reply_trigger_same (s : State) (r : Reply) (k : Line) :
    (s.reply r).trigger k = s.trigger k := rfl
@[simp] theorem State.report_ctx_same (s : State) (p : Ctx) (ph : Phase) (q : Ctx) :
    (s.report p ph).ctx q = s.ctx q := rfl
@[simp] theorem State.report_mixCh_same (s : State) (p : Ctx) (ph : Phase) (c : Chan) :
    (s.report p ph).mixCh c = s.mixCh c := rfl
@[simp] theorem State.report_outCh_same (s : State) (p : Ctx) (ph : Phase) (c : Chan) :
    (s.report p ph).outCh c = s.outCh c := rfl
@[simp] theorem State.report_trigger_same (s : State) (p : Ctx) (ph : Phase) (k : Line) :
    (s.report p ph).trigger k = s.trigger k := rfl
@[simp] theorem State.postTo_ctx_same (s : State) (ps : List Ctx) (e : EventId) (q : Ctx) :
    (s.postTo ps e).ctx q = s.ctx q := rfl
@[simp] theorem State.postTo_mixCh_same (s : State) (ps : List Ctx) (e : EventId) (c : Chan) :
    (s.postTo ps e).mixCh c = s.mixCh c := rfl
@[simp] theorem State.postTo_outCh_same (s : State) (ps : List Ctx) (e : EventId) (c : Chan) :
    (s.postTo ps e).outCh c = s.outCh c := rfl
@[simp] theorem State.postTo_trigger_same (s : State) (ps : List Ctx) (e : EventId) (k : Line) :
    (s.postTo ps e).trigger k = s.trigger k := rfl
@[simp] theorem State.withPending_ctx_same (s : State) (qs : List Instr) (q : Ctx) :
    (s.withPending qs).ctx q = s.ctx q := rfl
@[simp] theorem State.withPending_mixCh_same (s : State) (qs : List Instr) (c : Chan) :
    (s.withPending qs).mixCh c = s.mixCh c := rfl
@[simp] theorem State.withPending_outCh_same (s : State) (qs : List Instr) (c : Chan) :
    (s.withPending qs).outCh c = s.outCh c := rfl
@[simp] theorem State.withPending_trigger_same (s : State) (qs : List Instr) (k : Line) :
    (s.withPending qs).trigger k = s.trigger k := rfl
@[simp] theorem State.holdClaims_ctx_same (s : State) (p : Ctx) (q : Ctx) :
    (s.holdClaims p).ctx q = s.ctx q := rfl
@[simp] theorem State.holdClaims_outCh_same (s : State) (p : Ctx) (c : Chan) :
    (s.holdClaims p).outCh c = s.outCh c := rfl
@[simp] theorem State.holdClaims_trigger_same (s : State) (p : Ctx) (k : Line) :
    (s.holdClaims p).trigger k = s.trigger k := rfl
@[simp] theorem State.endHold_ctx_same (s : State) (p : Ctx) (q : Ctx) :
    (s.endHold p).ctx q = s.ctx q := rfl
@[simp] theorem State.endHold_outCh_same (s : State) (p : Ctx) (c : Chan) :
    (s.endHold p).outCh c = s.outCh c := rfl
@[simp] theorem State.endHold_trigger_same (s : State) (p : Ctx) (k : Line) :
    (s.endHold p).trigger k = s.trigger k := rfl

end Sys2Proof.Machine
end

