-- ==== Sys2Proof/Laws/Keeps.lean ====
section
/-! SUPPORT. What the shared operations leave as it is. `Keeps s t` says it of everything that a firing, an
examination, a context or the mixer does; `PlayKeeps s t` adds that TRIG's own state is untouched. Each
operation has one lemma, so a proof cites it and never unfolds the operation. -/

namespace Sys2Proof.Machine

/-- What a firing, an examination, a context's activity and the mixer's leave as it is. -/
structure Keeps (s t : State) : Prop where
  clk : t.clk = s.clk
  owed : t.owed = s.owed
  pending : t.pending = s.pending
  array : t.store.cells = s.store.cells
  mask : t.store.mask = s.store.mask
  lock : t.store.lockActive = s.store.lockActive
  linkOp : t.store.linkOp = s.store.linkOp
  order : s.orderSound → t.orderSound
  receiver : t.link.receiver = s.link.receiver
  service : t.link.service = s.link.service
  buffered : t.link.buffered = s.link.buffered
  hold : t.link.hold = s.link.hold
  rate : t.link.rate = s.link.rate
  dropped : t.link.dropped = s.link.dropped
  outbound : ∃ l, t.link.outbound = s.link.outbound ++ l ∧ ∀ f ∈ l, f.isReply = false
  notices : s.link.notices ≤ Config.noticeSlots → t.link.notices ≤ Config.noticeSlots
  sources : t.out.sources = s.out.sources
  outCh : ∀ ch, ∃ d, t.outCh ch
    = { s.outCh ch with buffered := { (s.outCh ch).buffered with duty := d } }
  curves : t.mix.curves = s.mix.curves
  arbitration : ∀ ch, (t.mixCh ch).arbitration = (s.mixCh ch).arbitration
  curve : ∀ ch, (t.mixCh ch).curve = (s.mixCh ch).curve
  secondary : ∀ ch, (t.mixCh ch).secondary = (s.mixCh ch).secondary
  secondaries : s.secondariesSound → t.secondariesSound
  home : ∀ p, (t.ctx p).home = (s.ctx p).home
  report : ∀ p, (t.ctx p).report = (s.ctx p).report
  posts : ∃ l, t.posts = s.posts ++ l
  lines : t.trig.lines = s.trig.lines
  groups : t.trig.groups = s.trig.groups
  triggers : ∀ l, (t.trigger l).config = (s.trigger l).config
  matchers : ∀ m : Fin 2, (t.trig.matchers[m]).config = (s.trig.matchers[m]).config
    ∧ (t.trig.matchers[m]).progress = (s.trig.matchers[m]).progress
    ∧ (t.trig.matchers[m]).gapRemaining = (s.trig.matchers[m]).gapRemaining
  queue : s.queueSound → t.queueSound

/-- What the contexts' and the mixer's activity leaves as it is: TRIG's state too, and the reports that
stand. -/
structure PlayKeeps (s t : State) : Prop extends Keeps s t where
  trig : t.trig = s.trig
  reports : ∃ l, t.reports = s.reports ++ l

theorem Keeps.refl (s : State) : Keeps s s where
  clk := rfl
  owed := rfl
  pending := rfl
  array := rfl
  mask := rfl
  lock := rfl
  linkOp := rfl
  order := id
  receiver := rfl
  service := rfl
  buffered := rfl
  hold := rfl
  rate := rfl
  dropped := rfl
  outbound := ⟨[], by simp, by simp⟩
  notices := id
  sources := rfl
  outCh := fun _ => ⟨_, rfl⟩
  curves := rfl
  arbitration := fun _ => rfl
  curve := fun _ => rfl
  secondary := fun _ => rfl
  secondaries := id
  home := fun _ => rfl
  report := fun _ => rfl
  posts := ⟨[], by simp⟩
  lines := rfl
  groups := rfl
  triggers := fun _ => rfl
  matchers := fun _ => ⟨rfl, rfl, rfl⟩
  queue := id

theorem Keeps.trans {s t u : State} (h : Keeps s t) (k : Keeps t u) : Keeps s u where
  clk := k.clk.trans h.clk
  owed := k.owed.trans h.owed
  pending := k.pending.trans h.pending
  array := k.array.trans h.array
  mask := k.mask.trans h.mask
  lock := k.lock.trans h.lock
  linkOp := k.linkOp.trans h.linkOp
  order := fun x => k.order (h.order x)
  receiver := k.receiver.trans h.receiver
  service := k.service.trans h.service
  buffered := k.buffered.trans h.buffered
  hold := k.hold.trans h.hold
  rate := k.rate.trans h.rate
  dropped := k.dropped.trans h.dropped
  outbound := by
    obtain ⟨l, hl, hl'⟩ := h.outbound
    obtain ⟨r, hr, hr'⟩ := k.outbound
    refine ⟨l ++ r, by rw [hr, hl, List.append_assoc], fun f hf => ?_⟩
    rcases List.mem_append.1 hf with hf | hf
    · exact hl' f hf
    · exact hr' f hf
  notices := fun x => k.notices (h.notices x)
  sources := k.sources.trans h.sources
  outCh := fun ch => by
    obtain ⟨d, hd⟩ := h.outCh ch
    obtain ⟨e, he⟩ := k.outCh ch
    exact ⟨e, by rw [he, hd]⟩
  curves := k.curves.trans h.curves
  arbitration := fun ch => (k.arbitration ch).trans (h.arbitration ch)
  curve := fun ch => (k.curve ch).trans (h.curve ch)
  secondary := fun ch => (k.secondary ch).trans (h.secondary ch)
  secondaries := fun x => k.secondaries (h.secondaries x)
  home := fun p => (k.home p).trans (h.home p)
  report := fun p => (k.report p).trans (h.report p)
  posts := by
    obtain ⟨l, hl⟩ := h.posts
    obtain ⟨r, hr⟩ := k.posts
    exact ⟨l ++ r, by rw [hr, hl, List.append_assoc]⟩
  lines := k.lines.trans h.lines
  groups := k.groups.trans h.groups
  triggers := fun l => (k.triggers l).trans (h.triggers l)
  matchers := fun m => ⟨(k.matchers m).1.trans (h.matchers m).1,
    (k.matchers m).2.1.trans (h.matchers m).2.1, (k.matchers m).2.2.trans (h.matchers m).2.2⟩
  queue := fun x => k.queue (h.queue x)

theorem PlayKeeps.refl (s : State) : PlayKeeps s s := ⟨Keeps.refl s, rfl, [], by simp⟩

theorem PlayKeeps.trans {s t u : State} (h : PlayKeeps s t) (k : PlayKeeps t u) : PlayKeeps s u :=
  ⟨h.toKeeps.trans k.toKeeps, k.trig.trans h.trig, by
    obtain ⟨l, hl⟩ := h.reports
    obtain ⟨r, hr⟩ := k.reports
    exact ⟨l ++ r, by rw [hr, hl, List.append_assoc]⟩⟩

/-- A fold of operations that each keep what they leave keeps it. -/
theorem Keeps.foldl {α : Type} {f : State → α → State} (h : ∀ s a, Keeps s (f s a)) (l : List α)
    (s : State) : Keeps s (l.foldl f s) := by
  induction l generalizing s with
  | nil => exact Keeps.refl s
  | cons a l ih => exact (h s a).trans (ih _)

theorem PlayKeeps.foldl {α : Type} {f : State → α → State} (h : ∀ s a, PlayKeeps s (f s a))
    (l : List α) (s : State) : PlayKeeps s (l.foldl f s) := by
  induction l generalizing s with
  | nil => exact PlayKeeps.refl s
  | cons a l ih => exact (h s a).trans (ih _)

/-! ### Base operations -/

theorem keeps_report (s : State) (p : Ctx) (ph : Phase) : PlayKeeps s (s.report p ph) :=
  { PlayKeeps.refl s with reports := ⟨_, rfl⟩ }

theorem keeps_postTo (s : State) (ps : List Ctx) (e : EventId) : PlayKeeps s (s.postTo ps e) :=
  { PlayKeeps.refl s with posts := ⟨_, rfl⟩ }

/-- A change of a context's record that leaves the home pointer and the report flag. -/
theorem keeps_modCtx (s : State) (p : Ctx) (f : Context → Context)
    (hh : (f (s.ctx p)).home = (s.ctx p).home) (hr : (f (s.ctx p)).report = (s.ctx p).report) :
    PlayKeeps s (s.modCtx p f) :=
  { PlayKeeps.refl s with
    home := fun q => by
      rw [State.modCtx_ctx]; split
      · next h => rw [h, hh]
      · rfl
    report := fun q => by
      rw [State.modCtx_ctx]; split
      · next h => rw [h, hr]
      · rfl }

/-- A change of the port and the grant order. -/
theorem keeps_port (s : State) (port : Option PortOp) (order : List Claimant)
    (h : s.store.order.Perm resetOrder → order.Perm resetOrder) :
    PlayKeeps s (s.modStore fun st => { st with port := port, order := order }) :=
  { PlayKeeps.refl s with order := h }

theorem keeps_grant (s : State) (c : Claimant) (hc : c ∈ s.store.order) : PlayKeeps s (s.grant c) :=
  keeps_port s _ _ fun h =>
    ((List.perm_append_comm.trans (List.perm_cons_erase hc).symm)).trans h

theorem keeps_arbitrate (s : State) : PlayKeeps s s.arbitrate := by
  unfold State.arbitrate
  split
  · exact PlayKeeps.refl s
  · split
    · next c h => exact keeps_grant s c (List.mem_of_find?_eq_some h)
    · exact PlayKeeps.refl s

theorem Link.begin_keeps_outbound (l : Link) : l.begin_.outbound = l.outbound := by
  unfold Link.begin_; split <;> rfl

/-- All that starting a frame changes is the mark that a frame is being sent. -/
theorem Link.begin_eq (l : Link) : ∃ b, l.begin_ = { l with sending := b } := by
  unfold Link.begin_; split
  · exact ⟨_, rfl⟩
  · exact ⟨_, rfl⟩

/-- All that queuing a frame does (R185, R186). -/
theorem Link.enqueue_eq (l : Link) (f : OutFrame) :
    ∃ b, l.enqueue f = { l with outbound := l.outbound ++ [f], sending := b } :=
  Link.begin_eq _

/-- All that a notice does: it joins the outbound queue with its tick stamp, or only the
notice-overflow flag is set (R185). -/
theorem State.notify_eq (s : State) (n : Notice) :
    (Config.noticeSlots ≤ s.link.notices
      ∧ s.notify n = s.modLink fun l => { l with overflow := true })
    ∨ (s.link.notices < Config.noticeSlots
      ∧ ∃ b, s.notify n = s.modLink fun l =>
          { l with outbound := l.outbound ++ [.notice s.clk.stamp n], sending := b }) := by
  unfold State.notify
  split
  · next h => exact .inl ⟨h, rfl⟩
  · next h =>
    obtain ⟨b, hb⟩ := Link.enqueue_eq s.link (.notice s.clk.stamp n)
    exact .inr ⟨by omega, b, by simp only [State.modLink, hb]⟩

theorem keeps_notify (s : State) (n : Notice) : PlayKeeps s (s.notify n) := by
  rcases State.notify_eq s n with ⟨-, h⟩ | ⟨hlt, b, h⟩
  · rw [h]; exact { PlayKeeps.refl s with }
  · rw [h]
    refine { PlayKeeps.refl s with
      outbound := ⟨[.notice s.clk.stamp n], rfl, by simp [OutFrame.isReply]⟩
      notices := fun _ => ?_ }
    simp only [State.modLink_link, Link.notices, List.countP_append, List.countP_cons,
      List.countP_nil, OutFrame.isReply, Bool.not_false, if_true]
    exact hlt

/-- A change of the mixer's held set. -/
theorem keeps_held (s : State) (h : CtxSet) :
    PlayKeeps s { s with mix := { s.mix with held := h } } := { PlayKeeps.refl s with }

/-- A change of one mixer channel that keeps its configuration and a secondary's emptiness. -/
theorem keeps_modMix (s : State) (ch : Chan) (f : MixChannel → MixChannel)
    (ha : (f (s.mixCh ch)).arbitration = (s.mixCh ch).arbitration)
    (hc : (f (s.mixCh ch)).curve = (s.mixCh ch).curve)
    (hs : (f (s.mixCh ch)).secondary = (s.mixCh ch).secondary)
    (he : (s.mixCh ch).secondary = true → (s.mixCh ch).claims = .empty ∧ (s.mixCh ch).level = 0 →
      (f (s.mixCh ch)).claims = .empty ∧ (f (s.mixCh ch)).level = 0) :
    PlayKeeps s (s.modMix ch f) :=
  { PlayKeeps.refl s with
    arbitration := fun c => by
      rw [State.modMix_mixCh]; split
      · next h => rw [h, ha]
      · rfl
    curve := fun c => by
      rw [State.modMix_mixCh]; split
      · next h => rw [h, hc]
      · rfl
    secondary := fun c => by
      rw [State.modMix_mixCh]; split
      · next h => rw [h, hs]
      · rfl
    secondaries := fun hyp c => by
      rw [State.modMix_mixCh]; split
      · next h => intro h1; rw [hs] at h1; exact he h1 (hyp ch h1)
      · exact hyp c }

/-- A duty written into a channel's buffer. -/
theorem keeps_duty (s : State) (ch : Chan) (d : Half) :
    PlayKeeps s (s.modOut ch fun o => { o with buffered := { o.buffered with duty := d } }) :=
  { PlayKeeps.refl s with
    outCh := fun c => by
      rw [State.modOut_outCh]; split
      · next h => exact ⟨d, by rw [h]⟩
      · exact ⟨_, rfl⟩ }

end Sys2Proof.Machine
end

