-- ==== Sys2Proof/Laws/KeepsPlay.lean ====
section
/-! SUPPORT. What each operation of the mixer and of the contexts leaves as it is. -/

namespace Sys2Proof.Machine

/-! ### Mixer -/

theorem keeps_handDuty (s : State) (ch : Chan) (d : Half) : PlayKeeps s (s.handDuty ch d) :=
  (keeps_modMix s ch _ rfl rfl rfl (fun _ h => h)).trans (keeps_duty _ ch d)

theorem keeps_translate (s : State) (ch : Chan) : PlayKeeps s (s.translate ch) := by
  unfold State.translate
  dsimp only
  split
  · exact PlayKeeps.refl s
  · split
    · exact PlayKeeps.refl s
    · exact keeps_handDuty s ch _

theorem keeps_settle (s : State) (ch : Chan) : PlayKeeps s (s.settle ch) := by
  unfold State.settle
  split
  · exact PlayKeeps.refl s
  · next h =>
    exact (keeps_modMix s ch _ rfl rfl rfl (fun h1 => absurd h1 h)).trans (keeps_translate _ ch)

theorem MixChannel.arrive_cfg (c : MixChannel) (who : Claimant) (t : Byte) (f : Nat) (p : Fin 8) :
    (c.arrive who t f p).arbitration = c.arbitration ∧ (c.arrive who t f p).curve = c.curve
      ∧ (c.arrive who t f p).secondary = c.secondary := ⟨rfl, rfl, rfl⟩

/-- A new claim on a channel that is not a secondary. -/
theorem keeps_claimArrives (s : State) (ch : Chan) (who : Claimant) (t : Byte) (f : Nat) (p : Fin 8)
    (h : (s.mixCh ch).secondary = false) : PlayKeeps s (s.claimArrives ch who t f p) :=
  (keeps_modMix s ch _ rfl rfl rfl (fun h1 => absurd h1 (by simp [h]))).trans (keeps_settle _ ch)

theorem keeps_settleChanged (s : State) (b : Vector MixChannel 16) (ch : Chan) :
    PlayKeeps s (s.settleChanged b ch) := by
  unfold State.settleChanged
  split
  · exact PlayKeeps.refl s
  · exact keeps_settle s ch

theorem ClaimSet.update_empty (f : Claimant → Claim → Option Claim) :
    ClaimSet.empty.update f = .empty := by
  unfold ClaimSet.update ClaimSet.empty
  congr 1

theorem keeps_updateClaims (s : State) (f : Chan → Claimant → Claim → Option Claim) :
    PlayKeeps s (s.updateClaims f) := by
  unfold State.updateClaims
  dsimp only
  refine PlayKeeps.trans ?_ (PlayKeeps.foldl (fun t ch => keeps_settleChanged t _ ch) _ _)
  refine { PlayKeeps.refl s with
    arbitration := fun c => by simp [State.mixCh]
    curve := fun c => by simp [State.mixCh]
    secondary := fun c => by simp [State.mixCh]
    secondaries := fun hyp c hc => ?_ }
  simp only [State.mixCh, Fin.getElem_fin, Vector.getElem_ofFn, Fin.eta] at hc ⊢
  obtain ⟨h1, h2⟩ := hyp c (by simpa [State.mixCh] using hc)
  simp only [State.mixCh, Fin.getElem_fin] at h1 h2
  exact ⟨by rw [h1, ClaimSet.update_empty], h2⟩

theorem keeps_releaseAll (s : State) (p : Ctx) (f : Nat) : PlayKeeps s (s.releaseAll p f) :=
  keeps_updateClaims s _

theorem keeps_releaseOthers (s : State) (p : Ctx) (l : List Chan) (f : Nat) :
    PlayKeeps s (s.releaseOthers p l f) := keeps_updateClaims s _

theorem keeps_holdClaims (s : State) (p : Ctx) : PlayKeeps s (s.holdClaims p) := keeps_held s _

theorem keeps_endHold (s : State) (p : Ctx) : PlayKeeps s (s.endHold p) := keeps_held s _

theorem keeps_removeClaims (s : State) (p : Ctx) : PlayKeeps s (s.removeClaims p) :=
  (keeps_updateClaims s _).trans (keeps_endHold _ p)

theorem keeps_advanceClaims (s : State) : PlayKeeps s s.advanceClaims := keeps_updateClaims s _

theorem keeps_releaseLink (s : State) (ch : Chan) (f : Nat) : PlayKeeps s (s.releaseLink ch f) :=
  keeps_updateClaims s _

theorem keeps_cueClaim (s : State) (p : Ctx) (cue : Cue) (e : Chan × Byte) :
    PlayKeeps s (s.cueClaim p cue e) := by
  unfold State.cueClaim
  split
  · exact PlayKeeps.refl s
  · next h => exact keeps_claimArrives s _ _ _ _ _ (by simpa using h)

theorem keeps_cueClaims (s : State) (p : Ctx) (cue : Cue) : PlayKeeps s (s.cueClaims p cue) := by
  unfold State.cueClaims
  dsimp only
  have h := PlayKeeps.foldl (fun t e => keeps_cueClaim t p cue e) cue.levels s
  split
  · exact h.trans (keeps_releaseOthers _ _ _ _)
  · exact h

/-! ### Phases -/

theorem keeps_enter (s : State) (p : Ctx) (a : Activity) : PlayKeeps s (s.enter p a) :=
  (keeps_modCtx s p _ rfl rfl).trans (keeps_report _ _ _)

theorem keeps_enterIdle (s : State) (p : Ctx) (w : Way) : PlayKeeps s (s.enterIdle p w) := by
  unfold State.enterIdle
  dsimp only
  have h := (keeps_modCtx s p (fun c => { c with activity := .idle, current := none }) rfl rfl).trans
    (keeps_report _ p .idle)
  split
  · exact h.trans (keeps_notify _ _)
  · exact h

theorem keeps_enterFaulted (s : State) (p : Ctx) (r : FaultReason) (w : Nat) :
    PlayKeeps s (s.enterFaulted p r w) :=
  ((keeps_enter s p _).trans (keeps_holdClaims _ p)).trans (keeps_notify _ _)

theorem keeps_takeClaimsGone (s : State) (p : Ctx) : PlayKeeps s (s.takeClaimsGone p) := by
  unfold State.takeClaimsGone
  split
  · exact keeps_enterIdle s p _
  · exact PlayKeeps.refl s

theorem keeps_anyOrder {α : Type} (s : State) (l : List α) : PlayKeeps s (s.anyOrder l).2 := by
  unfold State.anyOrder
  split
  · exact PlayKeeps.refl s
  · exact PlayKeeps.refl s
  · exact { PlayKeeps.refl s with }

theorem keeps_takeAllGone (s : State) (ps : List Ctx) : PlayKeeps s (s.takeAllGone ps) :=
  (keeps_anyOrder s ps).trans (PlayKeeps.foldl keeps_takeClaimsGone _ _)

theorem keeps_examineField (s : State) (p : Ctx) (f : Half) (n : Nat) (pp : Bool) :
    PlayKeeps s (s.examineField p f n pp) := by
  unfold State.examineField
  split
  · exact keeps_enterIdle s p _
  · split
    · exact keeps_enterFaulted s p _ _
    · exact (keeps_modCtx s p _ rfl rfl).trans (keeps_arbitrate _)

theorem keeps_enterFetch (s : State) (p : Ctx) (f : Half) : PlayKeeps s (s.enterFetch p f) :=
  (keeps_report s p _).trans (keeps_examineField _ p f 0 false)

theorem keeps_completeNormally (s : State) (p : Ctx) (cue : Cue) :
    PlayKeeps s (s.completeNormally p cue) := by
  unfold State.completeNormally
  split
  · exact keeps_enterFetch s p _
  · dsimp only
    refine PlayKeeps.trans ?_ (keeps_enterFetch _ p _)
    exact { PlayKeeps.refl s with }

theorem keeps_completeFade (s : State) (p : Ctx) (cue : Cue) : PlayKeeps s (s.completeFade p cue) := by
  unfold State.completeFade
  split
  · dsimp only
    split
    · exact (keeps_enter s p _).trans (keeps_completeNormally _ p cue)
    · exact keeps_enter s p _
  · split
    · exact keeps_enter s p _
    · dsimp only
      split
      · exact (keeps_enter s p _).trans (keeps_completeNormally _ p cue)
      · exact keeps_enter s p _

theorem keeps_enterFade (s : State) (p : Ctx) (cue : Cue) (n : Nat) :
    PlayKeeps s (s.enterFade p cue n) := by
  unfold State.enterFade
  dsimp only
  split
  · exact (keeps_enter s p _).trans (keeps_completeFade _ p cue)
  · exact keeps_enter s p _

theorem keeps_cuePost (s : State) (p : Ctx) (e : Option EventId) : PlayKeeps s (s.cuePost p e) := by
  unfold State.cuePost
  split
  · exact PlayKeeps.refl s
  · exact (keeps_modCtx s p _ rfl rfl).trans (keeps_postTo _ _ _)

theorem keeps_startCue (s : State) (p : Ctx) (cue : Cue) (pp : Bool) :
    PlayKeeps s (s.startCue p cue pp) := by
  unfold State.startCue
  dsimp only
  have h2 := ((keeps_modCtx s p (fun c => { c with arrivals := 0, current := some cue.word })
    rfl rfl).trans (keeps_cueClaims _ p cue)).trans (keeps_cuePost _ p cue.post)
  have h3 : ∀ t : State, PlayKeeps s t →
      PlayKeeps s (if (t.ctx p).report then t.notify (.cueStarted p cue.word pp) else t) := by
    intro t ht
    split
    · exact ht.trans (keeps_notify _ _)
    · exact ht
  split
  · exact ((h3 _ h2).trans (keeps_enter _ p _)).trans (keeps_holdClaims _ p)
  · exact (h3 _ h2).trans (keeps_enterFade _ p cue _)

/-! ### Completed reads -/

theorem keeps_takeLinkStep (s : State) (p : Ctx) (w n : Nat) (pp : Bool) (word : Word) :
    PlayKeeps s (s.takeLinkStep p w n pp word) := by
  unfold State.takeLinkStep
  split
  · exact keeps_enterFaulted s p _ _
  · split
    · split
      · exact keeps_enterFaulted s p _ _
      · exact keeps_examineField s p _ _ _
    · split
      · split
        · exact keeps_enterFaulted s p _ _
        · split
          · exact keeps_enterFaulted s p _ _
          · exact (keeps_modCtx s p _ rfl rfl).trans (keeps_arbitrate _)
      · exact keeps_enterFaulted s p _ _

theorem keeps_takeProbe (s : State) (p : Ctx) (c n : Nat) (pp : Bool) (lead : Word) :
    PlayKeeps s (s.takeProbe p c n pp lead) := by
  unfold State.takeProbe
  split
  · exact keeps_enterFaulted s p _ _
  · exact (keeps_modCtx s p _ rfl rfl).trans (keeps_arbitrate _)

theorem keeps_takeRecord (s : State) (p : Ctx) (c : Nat) (pp : Bool) (w : Word) (ws : List Word) :
    PlayKeeps s (s.takeRecord p c pp w ws) := by
  unfold State.takeRecord
  split
  · exact keeps_enterFaulted s p _ _
  · exact keeps_startCue s p _ _

theorem keeps_takeWords (s : State) (p : Ctx) (k : ReadKind) (w n : Nat) (pp : Bool) :
    PlayKeeps s (s.takeWords p k w n pp) := by
  unfold State.takeWords
  split
  · exact keeps_takeLinkStep s p _ _ _ _
  · exact keeps_takeProbe s p _ _ _ _
  · exact keeps_takeRecord s p _ _ _ _

theorem keeps_completeFetch (s : State) (p : Ctx) (k : ReadKind) (w : Nat) (live : Bool) :
    PlayKeeps s (s.completeFetch p k w live) := by
  unfold State.completeFetch
  dsimp only
  have h := keeps_port s none s.store.order id
  refine PlayKeeps.trans ?_ (keeps_arbitrate _)
  split
  · split
    · exact h.trans (keeps_takeWords _ p k w _ _)
    · exact h
  · exact h

/-! ### Posts, ticks, requests and deliveries at a context -/

theorem keeps_takePost (s : State) (p : Ctx) (e : EventId) : PlayKeeps s (s.takePost p e) := by
  unfold State.takePost
  have h := keeps_modCtx s p (fun c => c.arrive e) rfl rfl
  dsimp only
  split
  · split
    · exact h.trans (keeps_completeNormally _ p _)
    · exact h
  · exact h

theorem keeps_endCount (s : State) (p : Ctx) : PlayKeeps s (s.endCount p) := by
  unfold State.endCount
  split
  · exact keeps_completeFade s p _
  · exact keeps_completeNormally s p _
  · exact keeps_enterFetch s p _
  · exact PlayKeeps.refl s

theorem keeps_takeGo (s : State) (p : Ctx) (ptr : Option Half) : PlayKeeps s (s.takeGo p ptr) := by
  unfold State.takeGo
  split
  · exact keeps_enterFetch s p _
  · exact keeps_completeNormally s p _
  · exact keeps_enterFetch s p _

theorem keeps_withdrawFetch (s : State) (p : Ctx) : PlayKeeps s (s.withdrawFetch p) := by
  unfold State.withdrawFetch
  split
  · split
    · exact keeps_port s _ s.store.order id
    · exact PlayKeeps.refl s
  · exact PlayKeeps.refl s

theorem keeps_takeStop (s : State) (p : Ctx) : PlayKeeps s (s.takeStop p) := by
  unfold State.takeStop
  have h := keeps_removeClaims s p
  dsimp only
  split
  · exact h
  · exact (h.trans (keeps_withdrawFetch _ p)).trans (keeps_enterIdle _ p _)
  · exact h.trans (keeps_enterIdle _ p _)

theorem keeps_releaseFrom (s : State) (p : Ctx) (f : Nat) : PlayKeeps s (s.releaseFrom p f) := by
  unfold State.releaseFrom
  have h := keeps_releaseAll s p f
  dsimp only
  split
  · exact h
  · exact h.trans (keeps_takeClaimsGone _ p)

theorem keeps_takeRelease (s : State) (p : Ctx) (f : Nat) : PlayKeeps s (s.takeRelease p f) := by
  unfold State.takeRelease
  split
  · split
    · exact (keeps_enter s p _).trans (keeps_releaseFrom _ p f)
    · exact PlayKeeps.refl s
  · exact PlayKeeps.refl s
  · exact (keeps_enter s p _).trans (keeps_releaseFrom _ p f)
  · exact ((keeps_endHold s p).trans (keeps_enter _ p _)).trans (keeps_releaseFrom _ p f)
  · exact keeps_releaseFrom s p f
  · exact ((keeps_endHold s p).trans (keeps_enter _ p _)).trans (keeps_releaseFrom _ p f)

theorem keeps_takeResume (s : State) (p : Ctx) (cue : Cue) (a : CuePhase) :
    PlayKeeps s (s.takeResume p cue a) := by
  unfold State.takeResume
  have h := keeps_endHold s p
  dsimp only
  split
  · exact h.trans (keeps_enterFade _ p cue _)
  · split
    · exact (h.trans (keeps_enter _ p _)).trans (keeps_completeNormally _ p cue)
    · exact h.trans (keeps_enter _ p _)
  · split
    · exact (h.trans (keeps_enter _ p _)).trans (keeps_completeNormally _ p cue)
    · exact h.trans (keeps_enter _ p _)
  · exact h.trans (keeps_enter _ p _)

theorem keeps_deliver (s : State) (p : Ctx) (d : Delivery) : PlayKeeps s (s.deliver p d) := by
  unfold State.deliver
  split
  · exact keeps_takeGo s p _
  · exact keeps_takeRelease s p _
  · exact keeps_takeStop s p

end Sys2Proof.Machine
end

