-- ==== Sys2Proof/Laws/KeepsTrig.lean ====
section
/-! SUPPORT. What each operation of TRIG leaves as it is: offers, services, firings, removals, walks and
examinations (R153, R155 to R160). -/

namespace Sys2Proof.Machine

/-! ### Base operations -/

theorem keeps_modTrigger (s : State) (l : Line) (f : Trigger → Trigger)
    (hc : (f (s.trigger l)).config = (s.trigger l).config) : Keeps s (s.modTrigger l f) :=
  { Keeps.refl s with
    triggers := fun k => by
      rw [State.modTrigger_trigger]; split
      · next h => rw [h, hc]
      · rfl }

theorem State.modMatcher_matcher (s : State) (m k : Fin 2) (f : Matcher → Matcher) :
    (s.modMatcher m f).trig.matchers[k] = if k = m then f s.trig.matchers[m] else s.trig.matchers[k] := by
  simp only [State.modMatcher, Fin.getElem_fin, Vector.getElem_set]
  by_cases h : k = m <;> simp [h, eq_comm]
  intro hp; exact absurd (Fin.ext hp.symm) h

theorem keeps_modMatcher (s : State) (m : Fin 2) (f : Matcher → Matcher)
    (hc : (f s.trig.matchers[m]).config = (s.trig.matchers[m]).config
      ∧ (f s.trig.matchers[m]).progress = (s.trig.matchers[m]).progress
      ∧ (f s.trig.matchers[m]).gapRemaining = (s.trig.matchers[m]).gapRemaining) :
    Keeps s (s.modMatcher m f) :=
  { Keeps.refl s with
    matchers := fun k => by
      rw [State.modMatcher_matcher]
      by_cases h : k = m
      · rw [if_pos h, h]; exact hc
      · rw [if_neg h]; exact ⟨rfl, rfl, rfl⟩ }

theorem keeps_setKnown (s : State) (p : Ctx) (ph : Phase) : Keeps s (s.setKnown p ph) :=
  { Keeps.refl s with }

/-- A change of the queue that keeps its bounds. -/
theorem keeps_setQueue (s : State) (q : List DeliveryRecord)
    (h : s.queueSound → q.length ≤ Config.queuePlaces ∧ (q.map DeliveryRecord.source).Nodup) :
    Keeps s (s.setQueue q) :=
  { Keeps.refl s with queue := h }

/-! ### Offers (R156, R157) -/

/-- What one offer does to the record and the queue: the source and the queue stay. -/
theorem offer_spec (s : State) (r : DeliveryRecord) (p : Ctx) :
    Keeps s (s.offer r p).2.2 ∧ (s.offer r p).2.1.source = r.source
      ∧ (s.offer r p).2.2.trig.queue = s.trig.queue := by
  unfold State.offer
  split
  · have hd := keeps_deliver s p r.delivery
    have h : Keeps s ((s.deliver p r.delivery).setKnown p ((s.deliver p r.delivery).ctx p).phase) :=
      hd.toKeeps.trans (keeps_setKnown _ _ _)
    dsimp only
    split
    · unfold State.joinHeldBy
      have hq : (s.deliver p r.delivery).trig.queue = s.trig.queue := by rw [hd.trig]
      split
      · split
        · refine ⟨?_, rfl, hq⟩
          have hm := keeps_modTrigger
            ((s.deliver p r.delivery).setKnown p ((s.deliver p r.delivery).ctx p).phase)
            (by assumption) (fun t => { t with heldBy := t.heldBy ||| ctxBit p }) rfl
          exact Keeps.trans h hm
        · exact ⟨h, rfl, hq⟩
      · exact ⟨h, rfl, hq⟩
    · exact ⟨h, rfl, by show (s.deliver p r.delivery).trig.queue = _; rw [hd.trig]⟩
  · exact ⟨Keeps.refl s, rfl, rfl⟩
  · have hn := keeps_notify s (.triggerRefused r.source p r.delivery.action (by assumption))
    exact ⟨hn.toKeeps, rfl, by rw [hn.trig]⟩

/-- What a service keeps of the record, the state and the queue. -/
def ServeKeeps (s : State) (r : DeliveryRecord) (r1 : DeliveryRecord) (t : State) : Prop :=
  Keeps s t ∧ r1.source = r.source ∧ t.trig.queue = s.trig.queue

theorem ServeKeeps.trans {s t u : State} {r r1 r2 : DeliveryRecord} (h : ServeKeeps s r r1 t)
    (k : ServeKeeps t r1 r2 u) : ServeKeeps s r r2 u :=
  ⟨h.1.trans k.1, k.2.1.trans h.2.1, k.2.2.trans h.2.2⟩

theorem serveFixed_spec (s : State) (r : DeliveryRecord) :
    ServeKeeps s r (s.serveFixed r).1 (s.serveFixed r).2.2 := by
  unfold State.serveFixed
  dsimp only
  suffices h : ∀ (l : List Ctx) (s0 : State) (r0 : DeliveryRecord),
      ServeKeeps s0 r0
        (l.foldl (fun (acc : DeliveryRecord × State) p =>
          if ctxIn p r.remaining then (acc.2.offer acc.1 p).2 else acc) (r0, s0)).1
        (l.foldl (fun (acc : DeliveryRecord × State) p =>
          if ctxIn p r.remaining then (acc.2.offer acc.1 p).2 else acc) (r0, s0)).2 from h allCtx s r
  intro l
  induction l with
  | nil => intro s0 r0; exact ⟨Keeps.refl s0, rfl, rfl⟩
  | cons p l ih =>
    intro s0 r0
    rw [List.foldl_cons]
    split
    · exact ServeKeeps.trans (offer_spec s0 r0 p) (ih _ _)
    · exact ih s0 r0

theorem serveKnown_spec (ps : List Ctx) (s : State) (r : DeliveryRecord) (ph : Phase) :
    ServeKeeps s r (s.serveKnown r ph ps).2.1 (s.serveKnown r ph ps).2.2 := by
  induction ps generalizing s r with
  | nil => exact ⟨Keeps.refl s, rfl, rfl⟩
  | cons p ps ih =>
    unfold State.serveKnown
    split
    · have ho : ServeKeeps s r (s.offer r p).2.1 (s.offer r p).2.2 := offer_spec s r p
      rcases hh : s.offer r p with ⟨a, r1, s1⟩
      rw [hh] at ho
      cases a with
      | taken => exact ho
      | waits => exact ho
      | refused why => exact ho.trans (ih s1 r1)
    · exact ih s r

theorem serveFirstIdle_spec (s : State) (r : DeliveryRecord) :
    ServeKeeps s r (s.serveFirstIdle r).1 (s.serveFirstIdle r).2.2 := by
  unfold State.serveFirstIdle
  have h1 := serveKnown_spec allCtx s r .faulted
  rcases hh : s.serveKnown r .faulted allCtx with ⟨c, r1, s1⟩
  rw [hh] at h1
  cases c with
  | complete => exact h1
  | stays => exact h1
  | goingOn =>
    have h2 := serveKnown_spec allCtx s1 r1 .idle
    dsimp only
    rcases hk : s1.serveKnown r1 .idle allCtx with ⟨c2, r2, s2⟩
    rw [hk] at h2
    cases c2 with
    | complete => exact h1.trans h2
    | stays => exact h1.trans h2
    | goingOn => exact h1.trans h2

/-- What a record's service keeps. -/
theorem serveRecord_spec (s : State) (r : DeliveryRecord) :
    ServeKeeps s r (s.serveRecord r).1 (s.serveRecord r).2.2 := by
  unfold State.serveRecord
  split
  · exact serveFixed_spec s r
  · exact serveFirstIdle_spec s r

/-! ### Firings (R136, R138, R150) -/

theorem keeps_post (s : State) (e : EventId) : PlayKeeps s (s.post e) := keeps_postTo s _ e

/-- A record that joins the queue finds a place and none from its source. -/
theorem keeps_append (s : State) (r : DeliveryRecord) (hq : s.isQueued r.source = false)
    (hl : s.trig.queue.length < Config.queuePlaces) : Keeps s (s.append r) := by
  refine keeps_setQueue s _ fun h => ⟨by simp; omega, ?_⟩
  rw [List.map_append, List.nodup_append]
  refine ⟨h.2, by simp, ?_⟩
  intro a ha b hb
  simp only [List.map_cons, List.map_nil, List.mem_singleton] at hb
  subst hb
  rintro rfl
  obtain ⟨x, hx, hxe⟩ := List.mem_map.1 ha
  simp only [State.isQueued, List.any_eq_false] at hq
  exact hq x hx (by simp [hxe])

theorem keeps_markCoalesced (s : State) (src : Source) : Keeps s (s.markCoalesced src) := by
  unfold State.markCoalesced
  split
  · exact keeps_modTrigger s _ _ rfl
  · exact keeps_modMatcher s _ _ ⟨rfl, rfl, rfl⟩

theorem keeps_markMissed (s : State) (src : Source) : Keeps s (s.markMissed src) := by
  unfold State.markMissed
  split
  · exact keeps_modTrigger s _ _ rfl
  · exact keeps_modMatcher s _ _ ⟨rfl, rfl, rfl⟩

theorem keeps_act (s : State) (src : Source) (f : Firing) : Keeps s (s.act src f) := by
  unfold State.act
  split
  · exact (keeps_post s _).toKeeps
  · next h =>
    unfold State.firingOutcome at h
    split at h
    · cases h
    · split at h
      · cases h
      · split at h
        · cases h
        · next h1 h2 =>
          exact keeps_append s _ (by simpa [Firing.record] using h1) (by omega)
  · exact keeps_markCoalesced s src
  · exact (keeps_markMissed s src).trans (keeps_notify _ _).toKeeps

theorem keeps_testInWalk (s : State) (l : Line) : Keeps s (s.testInWalk l) := by
  unfold State.testInWalk
  split
  · exact keeps_act s _ _
  · exact Keeps.refl s

/-! ### Removals and walks (R155, R159) -/

theorem keeps_restAtRemoval (s : State) (r : DeliveryRecord) : Keeps s (s.restAtRemoval r) := by
  unfold State.restAtRemoval
  split
  · split
    · exact keeps_modTrigger s _ _ rfl
    · exact Keeps.refl s
  · exact Keeps.refl s

theorem keeps_dequeue (s : State) (src : Source) : Keeps s (s.dequeue src) :=
  keeps_setQueue s _ fun h =>
    ⟨(List.length_filter_le _ _).trans h.1,
      h.2.sublist (List.Sublist.map _ List.filter_sublist)⟩

/-- A record's removal, with tests that keep what they leave. -/
theorem keeps_removeRecord (test : State → Line → State) (ht : ∀ s l, Keeps s (test s l))
    (s : State) (r : DeliveryRecord) : Keeps s (State.removeRecord test s r) :=
  ((keeps_restAtRemoval s r).trans (keeps_dequeue _ _)).trans (Keeps.foldl ht _ _)

/-- A record of the queue is put back as its service left it. -/
theorem keeps_putBack (s : State) (i : Nat) (r r1 : DeliveryRecord) (hi : s.trig.queue[i]? = some r)
    (hs : r1.source = r.source) : Keeps s (s.setQueue (s.trig.queue.set i r1)) := by
  refine keeps_setQueue s _ fun h => ⟨by simpa using h.1, ?_⟩
  rw [List.map_set, hs]
  have : (s.trig.queue.map DeliveryRecord.source)[i]? = some r.source := by simp [hi]
  obtain ⟨hlt, hv⟩ := List.getElem?_eq_some_iff.1 this
  rw [← hv, List.set_getElem_self]
  exact h.2

theorem keeps_walk (k i : Nat) (s : State) : Keeps s (State.walk k i s) := by
  induction k generalizing i s with
  | zero => exact Keeps.refl s
  | succ k ih =>
    unfold State.walk
    split
    · exact Keeps.refl s
    · next r hr =>
      split
      · exact ih _ _
      · obtain ⟨h1, h2, h3⟩ := serveRecord_spec s r
        rcases hh : s.serveRecord r with ⟨r1, done, s1⟩
        rw [hh] at h1 h2 h3
        dsimp only at h1 h2 h3 ⊢
        have hp : Keeps s1 (s1.setQueue (s1.trig.queue.set i r1)) :=
          keeps_putBack s1 i r r1 (by rw [h3]; exact hr) h2
        split
        · exact ((h1.trans hp).trans (keeps_removeRecord _ keeps_testInWalk _ _)).trans (ih _ _)
        · exact (h1.trans hp).trans (ih _ _)

/-! ### Reports and examinations (R155, R198) -/

/-- The reports that stand are no part of what is kept: a walk, or the taking of one, changes them. -/
theorem keeps_setReports (s : State) (l : List Report) : Keeps s { s with reports := l } :=
  { Keeps.refl s with }

@[simp] theorem walkOnce_reports (s : State) : s.walkOnce.1.reports = s.reports := rfl

theorem keeps_walkOnce (s : State) : Keeps s s.walkOnce.1 :=
  ((keeps_setReports s []).trans (keeps_walk walkBound 0 _)).trans (keeps_setReports _ s.reports)

/-- A walk in which no context makes a report leaves nothing to take. -/
theorem walkOnce_of_quiet {s t : State} (h : State.walk walkBound 0 { s with reports := [] } = t)
    (hr : t.reports = []) : s.walkOnce = ({ t with reports := s.reports }, []) := by
  simp only [State.walkOnce, h, hr]

/-- A change of the trigger entries that keeps their configurations. -/
theorem keeps_setTriggers (s : State) (v : Vector Trigger 24)
    (h : ∀ l : Line, (v[l]).config = (s.trigger l).config) :
    Keeps s { s with trig := { s.trig with triggers := v } } :=
  { Keeps.refl s with triggers := h }

theorem keeps_leaveHeldBy (s : State) (p : Ctx) : Keeps s (s.leaveHeldBy p) :=
  keeps_setTriggers s _ fun l => by simp [State.trigger]

/-- A fold of tests that owe reports keeps what an examination keeps. -/
theorem keeps_testOwing {ex : State → List Report → State} (h : ∀ s o, Keeps s (ex s o))
    (l : List Line) (z : State × List Report) : Keeps z.1 (l.foldl (State.testOwing ex) z).1 := by
  induction l generalizing z with
  | nil => exact Keeps.refl _
  | cons a l ih =>
    refine Keeps.trans ?_ (ih _)
    unfold State.testOwing
    split
    · dsimp only
      split
      · exact (keeps_act z.1 _ _).trans (h _ _)
      · exact keeps_act z.1 _ _
    · exact Keeps.refl _

/-- All that the taking of a phase report may change, given what its examinations may (R155, R198). -/
theorem keeps_takeReportWith {ex : State → List Report → State} (h : ∀ s o, Keeps s (ex s o))
    (s : State) (r : Report) (owed : List Report) : Keeps s (s.takeReportWith ex r owed) := by
  unfold State.takeReportWith
  dsimp only
  split
  · exact (((keeps_setKnown s r.p r.phase).trans (keeps_leaveHeldBy _ r.p)).trans
      (keeps_testOwing h _ (_, owed))).trans (h _ _)
  · exact (keeps_setKnown s r.p r.phase).trans (h _ _)

/-- All that the taking of owed reports may change (R155). -/
theorem keeps_takeOwed (k : Nat) (s : State) (owed : List Report) :
    Keeps s (State.takeOwed k s owed) := by
  induction k generalizing s owed with
  | zero => exact keeps_setReports s _
  | succ k ih =>
    cases owed with
    | nil => exact Keeps.refl s
    | cons r rs =>
      have h : ∀ (t : State) (o : List Report),
          Keeps t (State.takeOwed k t.walkOnce.1 (o ++ t.walkOnce.2)) :=
        fun t o => (keeps_walkOnce t).trans (ih _ _)
      unfold State.takeOwed
      dsimp only
      split
      · exact (keeps_setReports s _).trans (keeps_takeReportWith h _ _ _)
      · exact keeps_takeReportWith h _ _ _

/-- With no report owed, none is taken. -/
theorem takeOwed_nil (k : Nat) (s : State) : State.takeOwed k s [] = s := by
  cases k with
  | zero => simp [State.takeOwed]
  | succ k => rfl

theorem keeps_examineOwing (s : State) (owed : List Report) : Keeps s (s.examineOwing owed) :=
  (keeps_walkOnce s).trans (keeps_takeOwed _ _ _)

/-- All that an examination may change (R155). -/
theorem keeps_examine (s : State) : Keeps s s.examine := keeps_examineOwing s []

/-- An examination in whose walk no context makes a report is its walk. -/
theorem examine_of_quiet (s : State) (h : s.walkOnce.2 = []) : s.examine = s.walkOnce.1 := by
  simp [State.examine, State.examineOwing, h, takeOwed_nil]

/-- All that a firing may change (R136, R138, R150, R155). -/
theorem keeps_fire (s : State) (src : Source) (f : Firing) : Keeps s (s.fire src f) := by
  unfold State.fire
  split
  · exact (keeps_act s src f).trans (keeps_examine _)
  · exact keeps_act s src f

theorem keeps_testLevel (s : State) (l : Line) : Keeps s (s.testLevel l) := by
  unfold State.testLevel
  split
  · exact keeps_fire s _ _
  · exact Keeps.refl s

/-- With no other report owed, a test is the test outside a walk. -/
theorem testOwing_nil (s : State) (l : Line) :
    State.testOwing State.examineOwing (s, []) l = (s.testLevel l, []) := by
  unfold State.testOwing State.testLevel State.fire
  dsimp only
  split
  · split <;> rfl
  · rfl

/-- The taking of a report that stood: its knowledge, the held-by work with its tests, and its examination
(R155, R198). -/
theorem takeReport_eq (s : State) (r : Report) :
    s.takeReport r =
      (let s1 := s.setKnown r.p r.phase
       if r.phase = .idle then
         ((s1.emptiedBy r.p).foldl State.testLevel (s1.leaveHeldBy r.p)).examine
       else s1.examine) := by
  have h : ∀ (l : List Line) (t : State),
      l.foldl (State.testOwing State.examineOwing) (t, []) = (l.foldl State.testLevel t, []) := by
    intro l
    induction l with
    | nil => intro t; rfl
    | cons a l ih => intro t; rw [List.foldl_cons, testOwing_nil, ih]; rfl
  unfold State.takeReport State.takeReportWith
  dsimp only
  split
  · rw [h]; rfl
  · rfl

/-- All that the taking of a phase report may change (R155, R198). -/
theorem keeps_takeReport (s : State) (r : Report) : Keeps s (s.takeReport r) :=
  keeps_takeReportWith keeps_examineOwing s r []

theorem keeps_fireMatcher (s : State) (m : Fin 2) : Keeps s (s.fireMatcher m) :=
  (keeps_notify s _).toKeeps.trans (keeps_fire _ _ _)

theorem keeps_expireRecord (s : State) (src : Source) : Keeps s (s.expireRecord src) := by
  unfold State.expireRecord
  split
  · exact Keeps.refl s
  · exact (keeps_notify s _).toKeeps.trans (keeps_removeRecord _ keeps_testLevel _ _)

/-! ### The port and the orders -/

/-- All that the arbiter does: nothing, or it grants the claimant that stands first among those that wait
(R17). -/
theorem arbitrate_eq (s : State) :
    s.arbitrate = s ∨ (s.store.port = none ∧ ∃ c, s.store.order.find? s.waitsAtPort = some c
      ∧ s.arbitrate = s.grant c) := by
  unfold State.arbitrate
  split
  · exact .inl rfl
  · next h =>
    split
    · next c hc => exact .inr ⟨h, c, hc, rfl⟩
    · exact .inl rfl

/-- A number picks a permutation of a list (log 9). -/
theorem orderBy_perm {α : Type} (n : Nat) (l : List α) : (orderBy l.length n l).Perm l := by
  suffices h : ∀ k n (l : List α), l.length = k → (orderBy k n l).Perm l from h _ n l rfl
  intro k
  induction k with
  | zero => intro n l hl; simp [orderBy, List.length_eq_zero_iff.1 hl]
  | succ k ih =>
    intro n l hl
    have hlt : n % l.length < l.length := Nat.mod_lt _ (by omega)
    unfold orderBy
    rw [List.getElem?_eq_getElem hlt]
    dsimp only
    refine (List.Perm.cons _ (ih _ _ (by rw [List.length_eraseIdx_of_lt hlt]; omega))).trans ?_
    exact (List.getElem_cons_eraseIdx_perm hlt)

/-- The order in which things are taken that the manual takes in any order is some order of them. -/
theorem anyOrder_perm {α : Type} (s : State) (l : List α) : (s.anyOrder l).1.Perm l := by
  unfold State.anyOrder
  split
  · exact List.Perm.refl _
  · exact List.Perm.refl _
  · exact orderBy_perm _ _

end Sys2Proof.Machine
end

