-- ==== Sys2Proof/Laws/Arrival.lean ====
section
/-! SUPPORT. An arriving request that is served at once: it reaches its owning block with itself in
service, and a reply ends the service (R181, R182). Every statement about a host request starts here. -/

namespace Sys2Proof.Machine

theorem stage_of_isRunning {s : State} (h : s.isRunning = true) : s.clk.stage = .running := by
  simpa [State.isRunning] using h

theorem isInReset_of_isRunning {s : State} (h : s.isRunning = true) : s.isInReset = false := by
  simp [State.isInReset, stage_of_isRunning h]

/-- A request brought into service in RUNNING is handed to its block (R182). -/
theorem bringIntoService_request {s : State} (h : s.isRunning = true) (r : Request) :
    s.bringIntoService (.request r) = (s.serving r).takeRequest r := by
  have hr : (s.serving r).isRunning = true := h
  exact if_pos hr

/-- A request that arrives at an accepting part is handed to its block at once (R181, R182). -/
theorem frameArrives_of_accepts {s : State} (h : s.accepts) (r : Request) :
    s.frameArrives (.request r) = (s.serving r).takeRequest r := by
  obtain ⟨h1, h2, h3, h4, h5⟩ := h
  rw [← bringIntoService_request h1]
  simp [State.frameArrives, isInReset_of_isRunning h1, h2, h3, h4, Nat.not_le.2 h5]

/-- A reply ends the service and joins the outbound queue's tail (R182, R185, R186). -/
theorem reply_eq (s : State) (r : Reply) :
    s.reply r = { s with link := { s.link with
      service := none, outbound := s.link.outbound ++ [.reply r],
      sending := s.link.sending || !s.link.hold } } := by
  simp only [State.reply, State.modLink, Link.enqueue, Link.begin_]
  cases s.link.hold <;> simp

/-- The reply of the request in service leaves no trace of the service. -/
theorem reply_serving (s : State) (r : Request) (x : Reply) :
    (s.serving r).reply x = s.reply x := rfl

theorem byteFin_eq_some {n : Nat} {b : Byte} {k : Fin n} (h : b.toNat = k.val) :
    byteFin n b = some k := by
  unfold byteFin
  rw [dif_pos (by omega)]
  simp [h]

theorem byteFin_eq_none {n : Nat} {b : Byte} (h : n ≤ b.toNat) : byteFin n b = none := by
  unfold byteFin
  rw [dif_neg (by omega)]

end Sys2Proof.Machine
end

