-- ==== Sys2Proof/Tests/Slice0.lean ====
section
/-! SUPPORT. Tests: the well-formedness smoke, the spec's own tables and examples, one small step of each
command, and for every statement with hypotheses a state and operands that meet them (test_hyp_…), each
clause at the boundary of its range. -/

open Sys2Proof Sys2Proof.Machine

namespace Sys2Proof.Tests

/-! ### Helpers -/

/-- The state after a command, or the state before it where there is none. -/
def after (c : Instr) (s : State) : State :=
  match exec c s with
  | .next t => t
  | _ => s

/-- Whether a command has a next state. -/
def runs (c : Instr) (s : State) : Bool :=
  match exec c s with
  | .next _ => true
  | _ => false

/-- The reply that a command queues last. -/
def answer (c : Instr) (s : State) : Option OutFrame := (after c s).link.outbound.getLast?

/-- The part in RUNNING with every bank writable and nothing queued. -/
def ready : State :=
  let clk := { State.reset.clk with stage := .running }
  let store := { State.reset.store with mask := 0xFFFF }
  { State.reset with clk := clk, store := store }

/-- The part at a stage of start-up. -/
def atStage (g : Stage) : State := { State.reset with clk := { State.reset.clk with stage := g } }

/-- The part with P1 at an activity. -/
def p1 (a : Activity) : State := ready.modCtx 1 fun c => { c with activity := a }

/-- A cue of one claim that then goes on to no cue. -/
def cue : Cue :=
  { word := 200, wait := none, loop := none, post := none, releaseOthers := false, priority := 3,
    levels := [(0, 100)], fade := 10, hold := 5, next := 0x8000 }

/-- The part with an operation of the link in progress at the port. -/
def linkAt (op : LinkOp) : State :=
  { ready with store := { ready.store with linkOp := some op, port := some .link } }

/-- The part with a request in service. -/
def withService (s : State) : State := s.serving .identify

/-- The array with these words from a word on. -/
def wordsFrom (w : Nat) : List Word → Memory → Memory
  | [], m => m
  | v :: vs, m =>
    let m1 := ((m.write (4 * w) (wordByte v 0)).write (4 * w + 1) (wordByte v 1)).write (4 * w + 2)
      (wordByte v 2)
    wordsFrom (w + 1) vs (m1.write (4 * w + 3) (wordByte v 3))

/-- The part with P1's fetch read of a word in progress, and these words there. -/
def fetching (kind : ReadKind) (w steps : Nat) (pp : Bool) (ws : List Word) : State :=
  let s := p1 (.fetch ⟨w, kind, steps⟩ pp)
  { s with store := { s.store with cells := wordsFrom w ws [],
                                   port := some (.fetch 1 kind w true) } }

/-- The lead word of a cue: count 1, priority 3, fade 10, no flag. -/
def lead : Word := 0x000A0B01

/-- A claim that fades from 100 to 0 over 4 ticks, one tick before its end. -/
def fading : Claim :=
  { present := 25, start := 100, target := 0, total := 4, elapsed := 3, priority := 3, stamp := 1,
    releasing := true }

/-- The part with a claim on CH0, and a tick owed to the mixer. -/
def claimed (who : Claimant) (v : Claim) : State :=
  (ready.modMix 0 fun c => { c with claims := c.claims.set who (some v), level := v.present,
                                    stampCounter := 1 }).modOwed fun o => { o with mix := 1 }

/-- A delivery record of IN3 for P0 and P1. -/
def record : DeliveryRecord :=
  { source := .line 3, delivery := .go (some 200), mode := .fixed, remaining := 3, expiry := none,
    taken := false }

/-- The part with a trigger queue. -/
def queued (q : List DeliveryRecord) : State := ready.setQueue q

/-- Sixteen records of the first sixteen lines, for P0. -/
def sixteen : List DeliveryRecord :=
  (List.finRange 16).map fun k =>
    { record with source := .line ⟨k.val, by omega⟩, delivery := .stop }

/-- The part with IN3 sampled LOW, its group enabled and reporting, and its entry as given. -/
def lineAt (cfg : TriggerConfig) : State :=
  ((ready.modLine 3 fun f => { f with sampled := true }).setGroup 0
    { enable := true, report := true, filter := 0 }).modTrigger 3 fun t => { t with config := cfg }

/-- An enabled entry of a sense that gives GO to P1 with a pointer. -/
def entry (sense : Sense) : TriggerConfig :=
  { enabled := true, activeLow := false, sense,
    firing := { Firing.default with targets := 2, pointer := some 200 } }

/-- A matcher of one step, IN3 RISING, that gives an EVENT. -/
def oneStep : Matcher :=
  { Matcher.reset with config := { MatcherConfig.default with
      enabled := true, steps := #v[3, 0, 0, 0, 0, 0, 0, 0],
      firing := { Firing.default with action := .event } } }

/-! ### Well-formedness (section 11.3) -/

theorem test_wf_program_of_238_bytes :
    Instr.wf (.storeProgram 0 (List.replicate 238 0)) = true := by decide +kernel

theorem test_wf_program_of_239_bytes_is_ill_formed :
    Instr.wf (.storeProgram 0 (List.replicate 239 0)) = false
    ∧ Request.wf (.storeProgram 0 (List.replicate 239 0)) = false := by decide +kernel

/-! ### The spec's tables and examples -/

theorem test_stop_frame : (Request.stop 2).frame = [0xC5, 0x01, 0x09, 0x02, 0xF4] := by decide

theorem test_stop_frame_decodes : Request.decode 0x09 [0x02] = .request (.stop 2) := by decide

theorem test_reset_memory_is_canonical : State.reset.store.cells.wf = true := by decide

theorem test_pointer_fields :
    ptrEnd 0xFFFF = true ∧ ptrEnd 0x8000 = true ∧ ptrEnd 0xC200 = true
    ∧ (ptrEnd 0x0410, ptrIndirect 0x0410, ptrIndex 0x0410) = (false, false, 1040)
    ∧ (ptrEnd 0x4200, ptrIndirect 0x4200, ptrIndex 0x4200) = (false, true, 512)
    ∧ ptrIndex 0x0050 = 80 ∧ (ptrIndirect 0x407F, ptrIndex 0x407F) = (true, 127) := by decide

theorem test_loop_operation :
    [loopOperation 5 9, loopOperation 1 9, loopOperation 0 3, loopOperation 0 0, loopOperation 255 9]
      = [(true, 4), (true, 0), (false, 3), (false, 0), (true, 254)] := by decide

theorem test_fade_levels :
    (List.range 5).map (fun e => fadeLevel 0 255 e 4) = [0, 63, 127, 191, 255]
    ∧ (List.range 5).map (fun e => fadeLevel 255 0 e 4) = [255, 192, 128, 64, 0] := by decide

theorem test_on_times :
    [onTime 1 0, onTime 1 257, onTime 1 25700, onTime 1 32768, onTime 1 65535]
      = [0, 62, 6274, 8000, 16000]
    ∧ [onTime 3 0, onTime 3 257, onTime 3 25700, onTime 3 32768, onTime 3 65535]
      = [0, 3, 313, 400, 800] := by decide

theorem test_write_enable_key : (0xFFFE : Half) ^^^ 0xFFFF = 0x0001 := by decide

theorem test_cue_lengths :
    cueLength 0x00000001 = 2 ∧ cueLength 0x00000071 = 6 ∧ cueLength 0x00000801 = 3
    ∧ cueLength 0x00008071 = 14 := by decide

theorem test_cue_record_decodes :
    decodeRecord 200 lead [lead, 0x80000005, 0xFFFF6400] = .ok cue := by decide

theorem test_programming_clears_bits :
    Memory.read (Memory.program [] 8 [0xF0, 0x3C]) 9 = 0x3C
    ∧ Memory.read (Memory.program [(8, 0x0F)] 8 [0xF0]) 8 = 0 := by decide

/-- SPEC table of R98: the selected claim and the effective level. -/
theorem test_arbitration :
    let c := fun (prio : Fin 8) (level : Byte) (stamp : Nat) (rel : Bool) =>
      some { fading with present := level, priority := prio, stamp := stamp, releasing := rel }
    let lv := fun a b d => ClaimSet.level { ctx := #v[a, none, b, none], link := d } .priority
    [lv none none none, lv (c 3 80 1 false) none (c 3 40 2 false),
     lv (c 3 80 1 false) (c 6 20 2 false) none, lv (c 3 80 1 false) (c 6 150 2 true) none,
     lv (c 3 80 1 false) (c 6 50 2 true) none, lv (c 3 80 1 false) (c 3 150 2 true) none,
     lv (c 3 30 1 true) (c 6 20 2 true) none] = [0, 40, 20, 150, 80, 80, 30] := by decide

/-! ### One step of a command -/

theorem test_idle_step : runs .identify ready = true ∧ ready.pending = [] := by decide

theorem test_set_counter :
    (after (.setCounter 15 7) ready).cells[15] = 7
    ∧ answer (.setCounter 16 7) ready = some (.reply (.refuse 0x0D .badField)) := by decide

theorem test_write_enable :
    (after (.setWriteEnable 0xFFFE 0x0001) ready).store.mask = 0xFFFE
    ∧ answer (.setWriteEnable 0xFFFE 0) ready = some (.reply (.refuse 0x05 .key)) := by decide

theorem test_store_read :
    (after (.storeRead 0 4) ready).store.port = some .link
    ∧ answer .storeReadComplete (withService (linkAt (.read 0 2)))
      = some (.reply (.storeData 0 [0xFF, 0xFF])) := by decide

theorem test_store_program :
    (after (.storeProgram 3 [1, 2, 3, 4]) ready).store.linkOp = some (.program 3 [1, 2, 3, 4])
    ∧ (after .storeProgramComplete (linkAt (.program 3 [1, 2, 3, 4]))).store.cells
      = [(12, 1), (13, 2), (14, 3), (15, 4)] := by decide

theorem test_store_erases :
    (after .eraseFrameComplete
      { linkAt (.eraseFrame 0) with store := { (linkAt (.eraseFrame 0)).store with
          cells := [(511, 1), (512, 2)] } }).store.cells = [(512, 2)]
    ∧ (after .eraseAllComplete
      { linkAt .eraseAll with store := { (linkAt .eraseAll).store with
          cells := [(511, 1), (512, 2)] } }).store.cells = [] := by decide

theorem test_reload_curves :
    (after .reloadCurves ready).store.linkOp = some .reloadCurves
    ∧ answer .curveLoadComplete (withService (linkAt .reloadCurves))
      = some (.reply (.ack 0x12)) := by decide

theorem test_go :
    answer (.go 1) ready = some (.reply (.refuse 0x06 .noCue))
    ∧ (after (.goWithPointer 1 200) ready).store.port = some (.fetch 1 .probe 200 true) := by decide

theorem test_pause_and_resume :
    ((after (.pause 1) (p1 (.running cue (.hold 3)))).ctx 1).activity = .paused cue (.hold 3)
    ∧ ((after (.resume 1) (p1 (.paused cue (.hold 3)))).ctx 1).activity
      = .running cue (.hold 3) := by decide

theorem test_stop_and_release :
    ((after (.stop 1) (p1 (.running cue (.hold 3)))).ctx 1).activity = .idle
    ∧ ((after (.release 1 4) (p1 (.running cue (.hold 3)))).ctx 1).activity = .idle := by decide +kernel

theorem test_config_context :
    ((after (.configContext 3 300 1) ready).ctx 3).home = 300
    ∧ ((after (.configContext 3 300 1) ready).ctx 3).report = true := by decide

theorem test_posts :
    (after (.postEvent 31) ready).posts = [(0, 31), (1, 31), (2, 31), (3, 31)]
    ∧ ((after (.post 1 5) { ready with posts := [(1, 5)] }).ctx 1).arrivals = 32 := by decide

theorem test_levels :
    ((after (.setLevel 15 200 0 7) ready).mixCh 15).level = 200
    ∧ ((after (.releaseLevel 0 0) (claimed .link fading)).mixCh 0).level = 0 := by decide

theorem test_tick_at_mixer :
    ((after .tickArrivalMix (claimed .link fading)).mixCh 0).claims = .empty
    ∧ ((after (.releaseFadeEnd 0 .link) (claimed .link fading)).mixCh 0).claims = .empty := by
  decide

theorem test_link_step :
    ((after .linkStepReadComplete (fetching .linkStep 500 0 false [0x0410FF02])).ctx 1).activity
      = .fetch ⟨1040, .probe, 1⟩ false
    ∧ ((after .linkStepReadComplete (fetching .linkStep 500 0 false [0x0410FF00])).ctx 1).activity
      = .fetch ⟨501, .linkStep, 1⟩ false := by decide

theorem test_probe_and_record :
    ((after .probeReadComplete (fetching .probe 200 0 false [lead])).ctx 1).activity
      = .fetch ⟨200, .record lead, 0⟩ false
    ∧ ((after .recordReadComplete
        (fetching (.record lead) 200 0 false [lead, 0x80000005, 0xFFFF6400])).ctx 1).activity
      = .running cue (.fade 10) := by decide

theorem test_ticks :
    (after .tick ready).owed = { play := 1, mix := 1, trig := 1, taken := 0 }
    ∧ (after .tick ready).clk.stamp = 1 := by decide

theorem test_tick_at_play :
    let s := (p1 (.running cue (.fade 10))).modOwed fun o => { o with play := 1 }
    ((after .tickArrivalPlay s).ctx 1).activity = .running cue (.fade 9) := by decide

theorem test_counts_end :
    let at_ := fun ph => (p1 (.running cue ph)).modOwed fun o => { o with play := 1 }
    ((after (.fadeComplete 1) (at_ (.fade 1))).ctx 1).activity = .running cue (.hold 5)
    ∧ ((after (.holdExpiry 1) (at_ (.hold 1))).ctx 1).activity = .idle
    ∧ ((after (.waitTimeout 1) (at_ (.wait (.event 4 1 0x8000)))).ctx 1).activity = .idle := by
  decide

theorem test_faults :
    let s := (ready.modOut 2 fun c => { c with mask := 1, safe := true })
    ((after (.faultInputChange 0 true) s).outCh 2).shutdown = true
    ∧ answer (.clearFault 0) (after (.faultInputChange 0 true) s)
      = some (.reply (.refuse 0x15 .faultActive)) := by decide

theorem test_period_start :
    let s := ready.modOut 2 fun c => { c with buffered := { c.buffered with mode := .pair } }
    ((after (.periodStart 2) s).outCh 2).active.mode = .pair
    ∧ ((after (.periodStart 2) s).outCh 3).paired = true := by decide

theorem test_lines :
    ((after (.firstSample 3 true) ready).trig.lines[3]).high = true
    ∧ runs (.lineSample 3 false) (lineAt (entry .edge)) = true
    ∧ ((after (.acceptedChange 3 true) (lineAt (entry .edge))).ctx 1).phase = .fetch := by decide +kernel

/-- A report made in a walk is taken when the walk has ended, behind an older one of its context (R155). -/
theorem test_reports_of_a_walk :
    (after (.acceptedChange 3 true) (lineAt (entry .edge))).reports = []
    ∧ (let s := { lineAt (entry .edge) with reports := [⟨0, .hold⟩, ⟨1, .paused⟩] }
       let t := after (.acceptedChange 3 true) s
       t.reports = [⟨0, .hold⟩] ∧ t.trig.known[1] = .fetch ∧ t.trig.known[0] = .idle) := by
  decide +kernel

theorem test_phase_report :
    let s := { ready with reports := [⟨2, .fade⟩] }
    (after (.phaseReport 2) s).trig.known[2] = .fade ∧ (after (.phaseReport 2) s).reports = [] := by
  decide

theorem test_tick_at_trig :
    let s := (queued [{ record with delivery := .stop, remaining := 1, expiry := some 1 }]).modOwed
      fun o => { o with trig := 1 }
    (after .tickArrivalTrig s).trig.queue = []
    ∧ answer (.recordExpiry (.line 3)) s
      = some (.notice 0 (.triggerExpired (.line 3) .stop 1)) := by decide +kernel

theorem test_gap_lapse :
    let s := (ready.modMatcher 1 fun m => { m with progress := 1, gapRemaining := 1 }).modOwed
      fun o => { o with trig := 1 }
    ((after (.gapLapse 1) s).trig.matchers[1]).progress = 0 := by decide

theorem test_receiver :
    (after (.byteArrival 0xC5 true) ready).link.receiver = .len
    ∧ answer .gapExpiry (after (.byteArrival 0xC5 true) ready)
      = some (.reply (.refuse 0 .truncated)) := by decide

theorem test_transmission :
    (after .frameTransmitted (after .identify ready)).link.outbound = []
    ∧ (after (.holdChange true) ready).link.hold = true := by decide

theorem test_reset_part :
    let s := after .resetPart ready
    s.clk.resetPending = true ∧ (after .frameTransmitted s).clk.stage = .inReset .request := by
  decide

theorem test_start_up :
    (after (.resetEnd true) State.reset).link.rate = .fast
    ∧ (after .headerReadComplete (atStage .readingHeader)).clk.stage = .loadingCurves false
    ∧ (after .startUpCurveLoadComplete (atStage (.loadingCurves false))).ready = true := by decide +kernel

theorem test_resets :
    (after .powerReset ready).clk.stage = .inReset .power
    ∧ (after .pinReset ready).clk.stage = .inReset .pin
    ∧ (after .pinReset State.reset).clk.stage = .inReset .power := by decide

theorem test_buffered_request_moves :
    answer .bufferedRequestMove
      (ready.modLink fun l => { l with buffered := some (.request (.setTick 2)) })
      = some (.reply (.ack 0x1B)) := by decide

theorem test_cannot_occur :
    exec .gapExpiry ready = .refused (.cannotOccur "GAP_EXPIRY") := rfl

/-! ### States and operands that meet the hypotheses of the statements -/

/-- A command that runs has a next state. -/
theorem next_of_runs {c : Instr} {s : State} (h : runs c s = true) : ∃ t, exec c s = .next t := by
  unfold runs at h
  split at h
  · next t e => exact ⟨t, e⟩
  · cases h

/-- While nothing waits at the port of a state with the reset order, the arbiter is sound. -/
theorem portSound_of {s : State} (ho : s.store.order = resetOrder)
    (hp : ∀ p : Ctx, s.waitsAtPort (.ctx p) = false) (hl : s.waitsAtPort .link = false) :
    s.portSound :=
  ⟨by rw [State.orderSound, ho], fun _ c => match c with
    | .ctx p => hp p
    | .link => hl⟩

theorem portSound_ready : ready.portSound := portSound_of rfl (by decide) (by decide)

theorem test_hyp_StepTakesTheFrontCommand : ready.pending = [] := rfl

theorem test_hyp_WhatCommandsLeave :
    (∃ t, exec .identify ready = .next t)
    ∧ (∃ t, exec .frameTransmitted (after .identify ready) = .next t)
    ∧ (after .identify ready).clk.resetPending = false :=
  ⟨next_of_runs (by decide), next_of_runs (by decide), by decide⟩

theorem test_hyp_accepts : ready.accepts ∧ ready.isRunning = true := by decide

/-- The boundary numbers of contexts, channels, lines, groups, matchers, events, cells and codes. -/
theorem test_hyp_numbers :
    ((0 : Byte).toNat = (0 : Ctx).val ∧ (3 : Byte).toNat = (3 : Ctx).val ∧ 3 < (4 : Byte).toNat)
    ∧ ((15 : Byte).toNat = (15 : Chan).val ∧ 15 < (16 : Byte).toNat)
    ∧ ((23 : Byte).toNat = (23 : Line).val ∧ 23 < (24 : Byte).toNat)
    ∧ ((31 : Byte).toNat = (31 : EventId).val ∧ 31 < (32 : Byte).toNat)
    ∧ ((1 : Byte).toNat = (1 : Fin 2).val ∧ 1 < (2 : Byte).toNat)
    ∧ ((2 : Byte).toNat = (2 : Fin 3).val ∧ 2 < (3 : Byte).toNat)
    ∧ (65534 : Half).toNat ≠ 65535 ∧ (65535 : Half).toNat = 65535 := by decide

theorem test_hyp_QueriesAreAnswered : ready.accepts ∧ (255 : Byte).toNat > 23 := by decide

theorem test_hyp_StoreRequestsAreTaken :
    ready.accepts ∧ ready.portSound ∧ ready.store.linkOp = none ∧ ready.store.lockActive = false
    ∧ ready.store.mask = 0xFFFF
    ∧ (65535 : Half).toNat + (1 : Byte).toNat ≤ 65536 ∧ 0 < (224 : Byte).toNat
    ∧ (224 : Byte).toNat ≤ 224
    ∧ (16383 : Half).toNat + [1, 2, 3, 4].length / 4 ≤ 16384
    ∧ (List.replicate 224 (0 : Byte)).length % 4 = 0
    ∧ (∀ i : Fin ([1, 2, 3, 4].length / 4),
        ready.store.mask.getLsbD (((16383 : Half).toNat + i.val) / 1024) = true)
    ∧ (127 : Byte).toNat ≤ 127 ∧ ready.store.mask.getLsbD ((127 : Byte).toNat / 8) = true :=
  ⟨by decide, portSound_ready, by decide, by decide, by decide, by decide, by decide, by decide,
   by decide +kernel, by decide +kernel, by decide +kernel, by decide +kernel, by decide +kernel⟩

/-- The part with the lock active, with no bank writable, and with a link store operation. -/
theorem test_hyp_StoreRequestsAreRefusedInOrder :
    let locked := ready.modStore fun st => { st with lockActive := true }
    let shut := ready.modStore fun st => { st with mask := 0 }
    let busy := ready.modStore fun st => { st with linkOp := some .eraseAll, port := some .link }
    locked.accepts ∧ shut.accepts ∧ busy.accepts ∧ locked.store.lockActive = true
    ∧ (∃ i : Fin ([1, 2, 3, 4].length / 4), shut.store.mask.getLsbD ((0 + i.val) / 1024) = false)
    ∧ shut.store.mask.getLsbD 0 = false ∧ shut.store.mask ≠ 0xFFFF ∧ busy.store.linkOp ≠ none
    ∧ (0 : Byte).toNat = 0 ∧ 224 < (225 : Byte).toNat
    ∧ 65536 < (65535 : Half).toNat + (2 : Byte).toNat ∧ 16383 < (16384 : Half).toNat
    ∧ ([] : List Byte).length = 0 ∧ [1, 2, 3].length % 4 ≠ 0
    ∧ 224 < (List.replicate 228 (0 : Byte)).length
    ∧ 16384 < (16383 : Half).toNat + (List.replicate 8 (0 : Byte)).length / 4
    ∧ 127 < (128 : Byte).toNat := by decide +kernel

theorem test_hyp_ProgrammingClearsBits :
    let s := linkAt (.program 0 [0xF0, 0xF0, 0xF0, 0xF0])
    (∃ t, exec .storeProgramComplete s = .next t)
    ∧ (∀ f, s.store.linkOp ≠ some (.eraseFrame f)) ∧ s.store.linkOp ≠ some .eraseAll :=
  ⟨next_of_runs (by decide), fun f h => by simp [linkAt] at h, by decide⟩

theorem test_hyp_StoreOperationsComplete :
    (linkAt (.read 65535 1)).store.port = some .link
    ∧ (linkAt (.read 65535 1)).store.linkOp = some (.read 65535 1)
    ∧ (linkAt (.program 127 [1, 2, 3, 4])).store.linkOp = some (.program 127 [1, 2, 3, 4])
    ∧ (linkAt (.program 128 [1, 2, 3, 4])).store.linkOp = some (.program 128 [1, 2, 3, 4])
    ∧ (linkAt (.eraseFrame 0)).store.linkOp = some (.eraseFrame 0)
    ∧ (linkAt (.eraseFrame 127)).store.linkOp = some (.eraseFrame 127)
    ∧ (linkAt .eraseAll).store.linkOp = some .eraseAll := by decide

theorem test_hyp_CurveLoadFillsTheSlots :
    let s := (linkAt .reloadCurves).modMix 15 fun c => { c with curve := 3 }
    s.store.port = some .link ∧ s.store.linkOp = some .reloadCurves
    ∧ (s.mixCh 0).curve = 0 ∧ (s.mixCh 15).curve ≠ 0 ∧ (s.mixCh 15).secondary = false := by decide

theorem test_hyp_ArbiterGrantsTheFirst :
    let s := { ready with store := { ready.store with linkOp := some .eraseAll } }
    s.store.port = none ∧ s.store.order = [.ctx 0, .ctx 1, .ctx 2, .ctx 3] ++ .link :: []
    ∧ Claimant.link ∉ [Claimant.ctx 0, .ctx 1, .ctx 2, .ctx 3]
    ∧ (∀ d ∈ [Claimant.ctx 0, .ctx 1, .ctx 2, .ctx 3], s.waitsAtPort d = false)
    ∧ s.waitsAtPort .link = true
    ∧ (linkAt .eraseAll).store.port ≠ none
    ∧ (∀ c ∈ ready.store.order, ready.waitsAtPort c = false) := by decide

theorem test_hyp_ContextConfigurationAndChecks :
    ready.accepts ∧ 3 < (4 : Byte).toNat ∧ (65535 : Half).toNat = 65535
    ∧ (3 : Byte).toNat = (3 : Ctx).val ∧ ready.trig.queue = [] := by decide

/-- A part that accepts with P1 in each phase: GO, PAUSE, RESUME, STOP and RELEASE meet every case. -/
theorem test_hyp_phases :
    (∀ a ∈ [Activity.idle, .fetch ⟨200, .probe, 0⟩ false, .running cue (.fade 1),
        .running cue (.hold 1), .running cue (.wait .go), .paused cue (.hold 0),
        .paused cue (.fade 0), .paused cue (.wait (.event 31 1 0x8000)), .releasing,
        .faulted .blankCue 200],
      (p1 a).accepts ∧ ((p1 a).ctx 1).activity = a)
    ∧ (1 : Byte).toNat = (1 : Ctx).val := by decide

theorem test_hyp_GoIsAnsweredByPhase : ready.accepts ∧ ptrEnd (ready.ctx 1).home = true
    ∧ ptrEnd ((ready.modCtx 1 fun c => { c with home := 200 }).ctx 1).home = false := by decide

theorem test_hyp_PauseAndResume :
    ((p1 (.paused cue (.wait (.event 31 1 0x8000)))).modCtx 1 fun c =>
      { c with arrivals := 1#32 <<< 31 }).accepts := by decide

theorem test_hyp_StopTakesTheContextToIdle :
    let s := fetching .probe 200 0 false []
    s.accepts ∧ (s.ctx 1).activity = .fetch ⟨200, .probe, 0⟩ false
    ∧ s.store.port = some (.fetch 1 .probe 200 true)
    ∧ (∀ kind w, ready.store.port ≠ some (.fetch 1 kind w true)) :=
  ⟨by decide, rfl, rfl, fun _ _ h => by cases h⟩

theorem test_hyp_ReleaseFadesTheClaims :
    let s := claimed (.ctx 1) { fading with releasing := false }
    s.accepts ∧ (s.ctx 1).activity = .idle ∧ s.mix.holdsClaim 1 = true
    ∧ ready.mix.holdsClaim 1 = false ∧ (0 : Half).toNat ≠ 65535 ∧ (65534 : Half).toNat ≠ 65535 := by
  decide

theorem test_hyp_ContextRequestsLeaveTheRest :
    ready.accepts ∧ (1 : Byte).toNat = (1 : Ctx).val
    ∧ (∃ t, exec (.go 1) ready = .next t) ∧ (∃ t, exec (.goWithPointer 1 200) ready = .next t)
    ∧ (∃ t, exec (.pause 1) ready = .next t) ∧ (∃ t, exec (.resume 1) ready = .next t)
    ∧ (∃ t, exec (.stop 1) ready = .next t) ∧ (∃ t, exec (.release 1 0) ready = .next t) :=
  ⟨by decide, by decide, next_of_runs (by decide), next_of_runs (by decide),
   next_of_runs (by decide), next_of_runs (by decide), next_of_runs (by decide),
   next_of_runs (by decide)⟩

theorem test_hyp_PointerFieldsAreFollowed :
    ptrEnd 128 = false ∧ 128 ≤ ptrIndex 128 ∧ 128 ≤ ptrIndex 0x7FFF ∧ ptrIndex 0x7FFF = 16383
    ∧ ptrIndex 127 = 127 ∧ ready.portSound ∧ ready.store.port = none
    ∧ (linkAt .eraseAll).store.port = some .link :=
  ⟨by decide, by decide, by decide, by decide, by decide, portSound_ready, rfl, rfl⟩

theorem test_hyp_LoopOperation :
    0 < (1 : Byte).toNat ∧ 0 < (255 : Byte).toNat
    ∧ { cue with loop := some ⟨15, 3, 0x8000⟩ }.loop = some ⟨15, 3, 0x8000⟩ := by decide

theorem test_hyp_CuesComplete :
    { cue with wait := some ⟨31, 0, 0x8000⟩ }.wait = some ⟨31, 0, 0x8000⟩ ∧ cue.wait = none
    ∧ { cue with hold := 65535 }.hold = 65535 ∧ { cue with hold := 0 }.hold = 0 := by decide

theorem test_hyp_LinkStepsAreExamined :
    (∀ steps ∈ [0, 14, 15],
      let s := fetching .linkStep 16383 steps true [0x0410FF02]
      s.store.port = some (.fetch 1 .linkStep 16383 true)
      ∧ (s.ctx 1).activity = .fetch ⟨16383, .linkStep, steps⟩ true) := by decide

theorem test_hyp_ProbesAreChecked :
    let s := fetching .probe 16382 0 true [lead]
    s.store.port = some (.fetch 1 .probe 16382 true)
    ∧ (s.ctx 1).activity = .fetch ⟨16382, .probe, 0⟩ true
    ∧ s.store.cells.word 16382 = lead := by decide +kernel

/-- A record with every block and an odd count of levels. -/
theorem test_hyp_DecodedCuesHoldTheirFields :
    let w0 : Word := 0x000A0BF1
    let words : List Word :=
      [w0, 0x80000005, 0x0001FF1F, 0xFFFF8000, 0x8000030F, 0xFFFFFF1F, 0xFFFF640F]
    words.length = (ReadKind.record w0).count
    ∧ (decodeRecord 200 w0 words).isOk = true ∧ w0.getLsbD 4 = true ∧ w0.getLsbD 5 = true
    ∧ w0.getLsbD 6 = true ∧ w0.toNat / 2048 % 32 = 1 := by decide +kernel

theorem test_hyp_RecordsAreChecked :
    [0x80000005, (0xFFFF6400 : Word)].length + 1 = (ReadKind.record lead).count
    ∧ decodeRecord 200 lead [0xFFFFFFFF, 0x80000005, 0xFFFF6400] = .error .blankCue
    ∧ decodeRecord 200 lead [lead, 0x80000005, 0xFFFF6410] = .error .badRecord
    ∧ (let s := fetching (.record lead) 200 0 false [lead, 0x80000005, 0xFFFF6410]
       s.store.port = some (.fetch 1 (.record lead) 200 true)
       ∧ (s.ctx 1).activity = .fetch ⟨200, .record lead, 0⟩ false
       ∧ decodeRecord 200 lead (s.store.cells.words 200 (ReadKind.record lead).count)
           = .error .badRecord)
    ∧ (ready.modStore fun st => { st with port := some (.fetch 1 .probe 200 false) }).store.port
        = some (.fetch 1 .probe 200 false) := by decide +kernel

theorem test_hyp_DecodedCuesStart :
    let s := fetching (.record lead) 200 0 true [lead, 0x80000005, 0xFFFF6400]
    s.store.port = some (.fetch 1 (.record lead) 200 true)
    ∧ (s.ctx 1).activity = .fetch ⟨200, .record lead, 0⟩ true
    ∧ decodeRecord 200 lead (s.store.cells.words 200 (ReadKind.record lead).count) = .ok cue
    ∧ (s.mixCh 0).secondary = false
    ∧ (cue.levels.filter fun e => e.1 == (0 : Chan)).getLast? = some (0, 100)
    ∧ (15 : Chan) ∉ cue.levels.map Prod.fst
    ∧ (0 : Chan) ∈ cue.levels.map Prod.fst
    ∧ (cue.levels.filter fun e => e.1 == (0 : Chan)) = [(0, 100)] := by decide +kernel

/-- A cue of fade 0 whose read completes with no pause pending. -/
theorem test_hyp_DecodedCuesStart_at_once :
    let w0 : Word := 0x00000B01
    let s := fetching (.record w0) 200 0 false [w0, 0x80000005, 0xFFFF6400]
    s.store.port = some (.fetch 1 (.record w0) 200 true)
    ∧ (s.ctx 1).activity = .fetch ⟨200, .record w0, 0⟩ false
    ∧ decodeRecord 200 w0 (s.store.cells.words 200 (ReadKind.record w0).count)
        = .ok { cue with fade := 0 } := by decide +kernel

theorem test_hyp_PostsAndCounters :
    ready.accepts ∧ (0 : Byte).toNat = (0 : EventId).val ∧ 31 < (32 : Byte).toNat
    ∧ (15 : Byte).toNat = (15 : Fin 16).val ∧ 15 < (16 : Byte).toNat
    ∧ (1, 31) ∈ { ready with posts := [((1 : Ctx), (31 : EventId))] }.posts := by decide

/-- A tick owed at P1 in FADE, in HOLD and in WAIT, with 1 and with 2 ticks left. -/
theorem test_hyp_countsAtATick :
    (∀ ph ∈ [CuePhase.fade 1, .fade 2, .hold 1, .hold 2, .wait (.event 31 1 128),
        .wait (.event 31 0 128), .wait (.event 31 2 128)],
      let s := (p1 (.running cue ph)).modOwed fun o => { o with play := 1 }
      0 < s.owed.play ∧ ctxIn 1 s.owed.taken = false ∧ (s.ctx 1).activity = .running cue ph)
    ∧ ctxIn 3 (8 : CtxSet) = true := by decide

theorem test_hyp_TickLowersTheCounts :
    let s := ready.modOwed fun o => { o with play := 1, taken := 8 }
    0 < s.owed.play ∧ ctxIn 3 s.owed.taken = true ∧ ctxIn 0 s.owed.taken = false
    ∧ (∀ p, (s.ctx p).lastTick = false) := by decide

theorem test_hyp_HostClaims :
    let full := ready.modMix 15 fun c => { c with stampCounter := 65535 }
    let second := ready.modMix 15 fun c => { c with secondary := true }
    full.accepts ∧ second.accepts ∧ (full.mixCh 15).stampCounter = 65535
    ∧ (second.mixCh 15).secondary = true ∧ (15 : Byte).toNat = (15 : Chan).val
    ∧ (7 : Byte).toNat = (7 : Fin 8).val ∧ 7 < (8 : Byte).toNat ∧ (65534 : Half).toNat ≠ 65535
    ∧ (full.mixCh 15).claims.get .link = none := by decide

theorem test_hyp_FadeArithmetic :
    0 < 1 ∧ 0 ≤ 65534 ∧ (0 : Byte).toNat ≤ (255 : Byte).toNat ∧ (7 : Byte).toNat ≤ (7 : Byte).toNat := by
  decide

theorem test_hyp_TickAdvancesTheClaims :
    let s := claimed (.ctx 1) fading
    0 < s.owed.mix ∧ (s.mixCh 0).claims.get (.ctx 1) = some fading ∧ fading.releasing = true
    ∧ fading.elapsed + 1 = fading.total ∧ s.mix.isHeld (.ctx 1) = false := by decide

/-- P1 in RELEASING leaves with its last claim. -/
theorem test_hyp_TickAdvancesTheClaims_leaving :
    let s := (claimed (.ctx 1) fading).modCtx 1 fun c => { c with activity := .releasing }
    s.leaving (after .tickArrivalMix s) = [1]
    ∧ ((after .tickArrivalMix s).ctx 1).activity = .idle := by decide +kernel

theorem test_hyp_LevelsAreArbitrated :
    let sel := { fading with releasing := false }
    selectClaim { ctx := #v[none, some sel, none, none], link := some fading : ClaimSet }.list
        = some (.ctx 1, sel)
    ∧ selectClaim { ctx := #v[none, none, none, none], link := some fading : ClaimSet }.list = none
    ∧ (∀ p : Ctx, ClaimSet.empty.get (.ctx p) = none) ∧ ClaimSet.empty.get .link = none := by decide

theorem test_hyp_PinsFollowTheDuty :
    let single := ready.modOut 1 fun c => { c with active := { c.active with mode := .single } }
    let pair := (ready.modOut 2 fun c => { c with active :=
      { c.active with mode := .pair, deadTime := 16, duty := 32768 } }).modOut 3
        fun c => { c with paired := true }
    single.isRunning = true ∧ (single.outCh 1).paired = false ∧ (single.outCh 1).shutdown = false
    ∧ (single.outCh 1).active.mode = .single ∧ (81 : Half).toNat < 82
    ∧ pair.isRunning = true ∧ pair.pairsSound ∧ isOdd 2 = false ∧ (pair.outCh 2).active.mode = .pair
    ∧ (pair.outCh 2).shutdown = false := by decide

/-- A channel entry in a mode. -/
def chanEntry (mode : Byte) : ChannelEntry := ⟨mode, 3, 255, 1, 3, 1, 3⟩

theorem test_hyp_ConfigChannelTakesEffect :
    ready.accepts ∧ (ChannelEntry.config (chanEntry 2) 14).isSome = true
    ∧ (ChannelEntry.config (chanEntry 1) 15).isSome = true
    ∧ (ChannelEntry.config (chanEntry 0) 0).isSome = true
    ∧ ((ready.modMix 15 fun c => { c with secondary := true }).mixCh 15).secondary = true := by decide

/-- A trigger entry and a matcher entry with these flags and this action. -/
def trigEntry (flags action : Byte) : TriggerEntry := ⟨flags, action, 1, 200, 0, 0⟩

def matchEntry (count action : Byte) : MatcherEntry :=
  ⟨1, action, 1, count, #v[23, 0, 0, 0, 0, 0, 0, 0], 1, 200, 0, 0⟩

theorem test_hyp_ConfigurationEntriesAreChecked :
    ready.accepts ∧ ChannelEntry.config (chanEntry 3) 0 = none
    ∧ ChannelEntry.config (chanEntry 2) 1 = none ∧ GroupEntry.config ⟨1, 1, 16⟩ = none
    ∧ (ChannelEntry.config (chanEntry 2) 0).isSome = true ∧ GroupEntry.config ⟨1, 1, 15⟩ ≠ none
    ∧ (TriggerEntry.config (trigEntry 31 0)).isSome = true
    ∧ (MatcherEntry.config (matchEntry 8 3)).isSome = true
    ∧ TriggerEntry.config (trigEntry 5 1) = none ∧ MatcherEntry.config (matchEntry 0 0) = none
    ∧ MatcherEntry.config (matchEntry 9 0) = none := by decide

theorem test_hyp_FaultSourcesAct :
    ready.isRunning = true ∧ (ready.out.sources[(1 : Fin 2)]).input ≠ true ∧ ready.accepts
    ∧ (1 : Byte).toNat = (1 : Fin 2).val ∧ (1 : Byte).toNat ≤ 1 ∧ 1 < (2 : Byte).toNat := by decide

theorem test_hyp_PeriodsAndShutdown :
    let down := ready.modOut 15 fun c => { c with shutdown := true, safe := true }
    let pair := (ready.modOut 2 fun c =>
      { c with active := { c.active with mode := .pair }, shutdown := true }).modOut 3
        fun c => { c with paired := true }
    down.isRunning = true ∧ down.pairsSound ∧ (down.outCh 15).paired = false
    ∧ (down.outCh 15).active.mode ≠ .pair ∧ (down.outCh 15).shutdown = true
    ∧ (down.outCh 0).active.mode = .off ∧ (down.outCh 0).shutdown = false
    ∧ pair.pairsSound ∧ (pair.outCh 2).active.mode = .pair ∧ (pair.outCh 2).shutdown = true
    ∧ State.reset.isRunning = false ∧ (atStage (.loadingCurves true)).isRunning = false := by
  decide

theorem test_hyp_LinesAreFiltered :
    let s := (lineAt (entry .edge)).setGroup 0 { enable := true, report := false, filter := 15 }
    let run := fun n => s.modLine 3 fun f => { f with run := n }
    s.isRunning = true ∧ (s.trig.lines[(3 : Line)]).sampled = true
    ∧ ((run 14).trig.lines[(3 : Line)]).run < ((run 14).trig.groups[lineGroup 3]).filter
    ∧ ((run 15).trig.groups[lineGroup 3]).filter ≤ ((run 15).trig.lines[(3 : Line)]).run
    ∧ (ready.trig.lines[(23 : Line)]).sampled = false ∧ (s.trigger 3).config.sense = .edge := by decide

/-- A test changes the state of a LEVEL entry whose condition holds. -/
theorem test_hyp_LinesAreFiltered_test :
    let s := (lineAt (entry .level)).modLine 3 fun f => { f with high := true }
    s.testLevel 3 ≠ s := by decide +kernel

theorem test_hyp_AcceptedChangesAct :
    let s := lineAt (entry .level)
    s.isRunning = true ∧ (s.trig.lines[(3 : Line)]).sampled = true
    ∧ (s.trig.lines[(3 : Line)]).high ≠ true
    ∧ (s.trig.groups[lineGroup 3]).filter ≤ (s.trig.lines[(3 : Line)]).run
    ∧ (oneStep.take 3 true).2 = true ∧ (oneStep.take 3 false).2 = false := by decide

/-- One change at which both matchers fire. -/
theorem test_hyp_AcceptedChangesAct_both :
    let s := (ready.modMatcher 0 fun _ => oneStep).modMatcher 1 fun _ => oneStep
    (s.trig.matchers[0].take 3 true).2 = true ∧ (s.trig.matchers[1].take 3 true).2 = true := by decide

theorem test_hyp_LevelTestsAndFirings :
    let f := { Firing.default with action := .stop }
    { Firing.default with action := .event }.action = .event ∧ f.action ≠ .event
    ∧ ((queued [record]).trig.queue.any fun r => r.source == .line 3) = true
    ∧ ((queued sixteen).trig.queue.any fun r => r.source == .line 23) = false
    ∧ 16 ≤ (queued sixteen).trig.queue.length
    ∧ (queued (sixteen.take 15)).trig.queue.length < 16 := by decide

theorem test_hyp_MatchersStep :
    oneStep.config.enabled = true ∧ Matcher.reset.config.enabled = false ∧ oneStep.progress = 0
    ∧ 0 < { oneStep with progress := 1, gapRemaining := 2 }.progress
    ∧ 1 < { oneStep with progress := 1, gapRemaining := 2 }.gapRemaining
    ∧ { oneStep with progress := 1, gapRemaining := 1 }.gapRemaining = 1 := by decide

theorem test_hyp_TrigConfigurationTakesEffect :
    ready.accepts ∧ (2 : Byte).toNat = (2 : Fin 3).val ∧ (15 : Byte).toNat ≤ 15
    ∧ (TriggerEntry.config (trigEntry 1 3)).isSome = true
    ∧ (TriggerEntry.config (trigEntry 21 0)).isSome = true
    ∧ (MatcherEntry.config (matchEntry 8 0)).isSome = true
    ∧ (MatcherEntry.config (matchEntry 1 2)).isSome = true := by decide

theorem test_hyp_OffersAndFixedRecords :
    ctxIn 0 record.remaining = true ∧ ctxIn 3 record.remaining = false
    ∧ (ready.ctx 0).answer record.delivery = .taken
    ∧ ((p1 (.fetch ⟨200, .probe, 0⟩ false)).ctx 1).answer record.delivery = .waits
    ∧ ((p1 (.faulted .blankCue 200)).ctx 1).answer record.delivery = .refused .faulted
    ∧ ready.accepts ∧ (3 : Byte).toNat = (3 : Ctx).val ∧ (0 : Half).toNat ≠ 65535
    ∧ (ready.ctx 3).phase ≠ .fetch
    ∧ record.source = .line 3 ∧ ((lineAt (entry .level)).trigger 3).config.sense = .level := by decide

/-- A candidate known IDLE that refuses NO_CUE, and one that has left IDLE unseen. -/
theorem test_hyp_FirstIdleRecordsAreServed_refused :
    let r := { record with mode := .firstIdle, delivery := .go none }
    let gone := (p1 (.fetch ⟨200, .probe, 0⟩ false)).setKnown 1 .idle
    (ready.ctx 0).answer r.delivery = .refused .noCue ∧ ready.trig.known[0] = .idle
    ∧ (gone.ctx 1).answer r.delivery = .waits ∧ gone.trig.known[1] = .idle := by decide

theorem test_hyp_FirstIdleRecordsAreServed :
    let r := { record with mode := .firstIdle, remaining := 2 }
    let s := (p1 (.faulted .blankCue 200)).setKnown 1 .faulted
    (∀ p : Ctx, ready.trig.known[p] = (ready.ctx p).phase)
    ∧ (∀ p : Ctx, s.trig.known[p] = (s.ctx p).phase) ∧ r.delivery = .go (some 200)
    ∧ (∀ p, ctxIn p r.remaining = true → (s.ctx p).phase ≠ .idle)
    ∧ (allCtx.filter fun p => ctxIn p r.remaining && (ready.ctx p).phase == .idle) = 1 :: []
    ∧ (ready.ctx 1).answer r.delivery = .taken
    ∧ (∀ q, ctxIn q r.remaining = true → (ready.ctx q).phase ≠ .faulted) := by decide

theorem test_hyp_ExaminationsAndRemovals :
    let s := (p1 (.fetch ⟨200, .probe, 0⟩ false)).setQueue [{ record with remaining := 2 }]
    (∀ r ∈ s.trig.queue, r.remaining ≠ 0 ∧ r.mode = .fixed
      ∧ ∀ p, ctxIn p r.remaining = true → (s.ctx p).answer r.delivery = .waits)
    ∧ (∀ l, ready.levelHolds l = false) := by decide

/-- A walk that serves its first record to the end, one that passes a record by, and one at its end; and a
level condition that holds with a place free and with none. -/
theorem test_hyp_ExaminationsAndRemovals_walk :
    let live := queued [{ record with remaining := 2 }]
    let passed := queued [{ record with expiry := some 0 }]
    let holds := (lineAt (entry .level)).modLine 3 fun f => { f with high := true }
    let full := holds.setQueue ((List.finRange 16).map fun k =>
      { record with source := .line ⟨k.val + 4, by omega⟩ })
    live.trig.queue[0]? = some { record with remaining := 2 } ∧ record.expiry ≠ some 0
    ∧ (live.serveFixed { record with remaining := 2 }).2.1 = true
    ∧ (live.serveFixed { record with remaining := 0 }).1.remaining = 0
    ∧ passed.trig.queue[0]? = some { record with expiry := some 0 }
    ∧ ready.trig.queue[0]? = none
    ∧ holds.levelHolds 3 = true ∧ holds.trig.queue.length < 16
    ∧ (holds.trigger 3).config.firing.action ≠ .event
    ∧ full.levelHolds 3 = true ∧ 16 ≤ full.trig.queue.length
    ∧ ((holds.modTrigger 3 fun t => { t with config := { t.config with
          firing := { t.config.firing with action := .event } } }).levelHolds 3) = true := by
  decide +kernel

theorem test_hyp_PhaseReportsAreTaken :
    let idle : Report := ⟨1, .idle⟩
    { ready with reports := [⟨0, .fade⟩, idle, ⟨1, .fade⟩] }.reports
      = [⟨0, .fade⟩] ++ idle :: [⟨1, .fade⟩]
    ∧ (∀ q ∈ [(⟨0, .fade⟩ : Report)], q.p ≠ 1) ∧ idle.phase = .idle
    ∧ (∀ q ∈ ready.reports, q.p ≠ idle.p) := by decide

theorem test_hyp_TickCountsAtTrig :
    let r := { record with expiry := some 1 }
    let s := (queued [{ record with source := .matcher 0, expiry := some 2 }, r]).modOwed
      fun o => { o with trig := 1 }
    let m := (ready.modMatcher 1 fun m => { m with progress := 1, gapRemaining := 1 }).modOwed
      fun o => { o with trig := 1 }
    0 < s.owed.trig
    ∧ s.trig.queue = [{ record with source := .matcher 0, expiry := some 2 }] ++ r :: []
    ∧ (∀ q ∈ [{ record with source := .matcher 0, expiry := some 2 }] ++ [],
        q.expiry ≠ some 0 ∧ q.expiry ≠ some 1 ∧ q.source ≠ r.source)
    ∧ (∃ q ∈ s.trig.queue, q.expiry = some 1)
    ∧ 0 < m.owed.trig ∧ 0 < (m.trig.matchers[(1 : Fin 2)]).progress
    ∧ (m.trig.matchers[(1 : Fin 2)]).gapRemaining = 1
    ∧ (∀ q ∈ m.trig.queue, q.expiry ≠ some 0) := by decide

theorem test_hyp_TicksAndRates :
    ready.accepts ∧ (3 : Byte).toNat = (3 : Fin 4).val ∧ 3 < (4 : Byte).toNat
    ∧ ready.isRunning = true ∧ State.reset.isRunning = false
    ∧ (∃ t, exec .identify ready = .next t) ∧ (∃ t, exec .powerReset ready = .next t) :=
  ⟨by decide, by decide, by decide, by decide, by decide, next_of_runs (by decide),
   next_of_runs (by decide)⟩

theorem test_hyp_ResetsFall :
    let s := after .resetPart ready
    ready.accepts ∧ s.clk.resetPending = true ∧ s.link.sending = true
    ∧ s.link.outbound = .reply (.ack 0x1C) :: [] ∧ State.reset.clk.stage = .inReset .power
    ∧ ready.clk.stage ≠ .inReset .power := by decide

theorem test_hyp_HeaderItemsAreTaken :
    State.reset.clk.stage = .inReset .power ∧ (atStage .readingHeader).clk.stage = .readingHeader := by
  decide

theorem test_hyp_StartUpEnds :
    let s := (atStage (.loadingCurves true)).modCtx 3 fun c => { c with home := 128 }
    s.clk.stage = .loadingCurves true ∧ s.quietBeforeRunning ∧ s.portSound
    ∧ s.link.buffered = none ∧ ptrEnd (s.ctx 3).home = false ∧ 128 ≤ ptrIndex (s.ctx 3).home :=
  ⟨rfl, by decide, portSound_of rfl (by decide) (by decide), rfl, by decide, by decide⟩

theorem test_hyp_ReceiverTakesBytes :
    State.reset.isInReset = true ∧ ready.isInReset = false
    ∧ (∀ v ∈ [Receiver.hunt, .len, .kind 0 0, .kind 240 240, .body 2 9 [] 2 11, .body 2 9 [1] 1 12,
        .check 1 9 [2] 12], ((ready.modLink fun l => { l with receiver := v }).isInReset = false
          ∧ (ready.modLink fun l => { l with receiver := v }).link.receiver = v)) := by decide

theorem test_hyp_RequestsSurviveTheWire :
    (Request.storeProgram 0 (List.replicate 238 0)).wf = true ∧ ready.isInReset = false
    ∧ ready.link.receiver = .hunt := by decide +kernel

/-- With a RESET_PART pending a frame is held though eight replies stand queued. -/
theorem test_hyp_FramesArrive_held :
    let l := { ready.link with outbound := List.replicate 8 (.reply (.ack 3)) }
    let s := { ready with link := l, clk := { ready.clk with resetPending := true } }
    8 ≤ s.link.replies ∧ s.clk.resetPending = true ∧ s.link.buffered = none
    ∧ (s.frameArrives (.request .status)).link.buffered = some (.request .status)
    ∧ ({ s with clk := ready.clk }.frameArrives (.request .status)).link.dropped = true := by decide

theorem test_hyp_FramesArrive :
    let s := ready.modLink fun l => { l with buffered := some (.request .status) }
    State.reset.isInReset = true ∧ s.isInReset = false ∧ s.link.service = none
    ∧ s.link.buffered = some (.request .status) ∧ s.clk.resetPending = false ∧ s.link.replies < 8
    ∧ (atStage .readingHeader).isRunning = false := by decide

theorem test_hyp_FramesLeave :
    let s := after .identify ready
    s.link.sending = true ∧ s.link.outbound = .reply (.identity .slow) :: []
    ∧ s.clk.resetPending = false ∧ OutFrame.reply (.identity .slow) ≠ .reply (.ack 0x1C) := by decide

/-- Every invariant holds in a state that a step leaves, and a step of RUNNING runs there. -/
theorem test_hyp_StepKeeps :
    let s := ready.withPending [.identify]
    (∃ t, step s = .next t) ∧ s.storeSound ∧ s.portSound ∧ s.queueSound ∧ s.outboundSound
    ∧ s.secondariesSound ∧ s.pairsSound ∧ s.levelsSound ∧ s.quietBeforeRunning ∧ s.heldSound :=
  ⟨next_of_runs (c := .identify) (s := ready.withPending []) (by decide),
   ⟨by decide, fun _ h => by cases h⟩, portSound_of rfl (by decide) (by decide), by decide,
   ⟨by decide, by decide, trivial⟩, by decide, by decide, by decide, by decide, by decide⟩

/-- So does a state of STARTING. -/
theorem test_hyp_StepKeeps_starting :
    let s := (atStage .readingHeader).withPending [.headerReadComplete]
    (∃ t, step s = .next t) ∧ s.quietBeforeRunning ∧ s.levelsSound ∧ s.heldSound
    ∧ s.isRunning = false :=
  ⟨next_of_runs (c := .headerReadComplete) (s := (atStage .readingHeader).withPending [])
     (by decide), by decide, by decide, by decide, by decide⟩

end Sys2Proof.Tests
end

section
/-! The arbiter of the store port (R16, R17): who waits, who is granted, and that a port that has just been
arbitrated leaves nobody waiting. -/

namespace Sys2Proof.Machine

/-- A claimant waits exactly where it asks for an operation that is not the one at the port (R16). -/
theorem waitsAtPort_iff (s : State) (c : Claimant) :
    s.waitsAtPort c = true ↔ s.portRequest c ≠ none ∧ s.portRequest c ≠ s.store.port := by
  cases c with
  | ctx p =>
    unfold State.waitsAtPort State.portRequest
    dsimp only
    split <;> simp only [bne_iff_ne, ne_eq, reduceCtorEq, not_false_eq_true, true_and, not_true,
      false_and, Bool.false_eq_true, eq_comm (a := s.store.port)]
  | link =>
    unfold State.waitsAtPort State.portRequest
    cases s.store.linkOp <;> simp [eq_comm (a := s.store.port)]

/-- With the port in use nothing is granted (R17). -/
theorem arbitrate_of_busy {s : State} (h : s.store.port ≠ none) : s.arbitrate = s := by
  unfold State.arbitrate
  split
  · rfl
  · next hp => exact absurd hp h

/-- With no claimant waiting nothing is granted (R17). -/
theorem arbitrate_of_idle {s : State} (h : ∀ c ∈ s.store.order, s.waitsAtPort c = false) :
    s.arbitrate = s := by
  unfold State.arbitrate
  split
  · rfl
  · rw [List.find?_eq_none.2 fun c hc => by simp [h c hc]]

/-- The claimant that stands first among those that wait is granted the free port (R17). -/
theorem arbitrate_of_first {s : State} {c : Claimant} (hp : s.store.port = none)
    (hf : s.store.order.find? s.waitsAtPort = some c) : s.arbitrate = s.grant c := by
  rcases arbitrate_eq s with h | ⟨-, d, hd, h⟩
  · unfold State.arbitrate
    rw [hp, hf]
  · rw [hf] at hd
    cases hd
    exact h

/-- A granted claimant's operation is at the port. -/
theorem grant_port {s : State} {c : Claimant} (h : s.waitsAtPort c = true) :
    (s.grant c).store.port ≠ none := by
  rw [waitsAtPort_iff] at h
  exact h.1

/-- All that the arbiter changes is the port and the grant order. -/
theorem arbitrate_eq_modStore (s : State) : s.arbitrate = s.modStore fun st =>
    { st with port := s.arbitrate.store.port, order := s.arbitrate.store.order } := by
  rcases arbitrate_eq s with h | ⟨-, c, -, h⟩ <;> rw [h] <;> rfl

/-- The sound grant order holds every claimant (R17). -/
theorem mem_order {s : State} (h : s.orderSound) (c : Claimant) : c ∈ s.store.order := by
  refine h.mem_iff.2 ?_
  cases c with
  | ctx p => revert p; decide
  | link => decide

/-- The arbiter leaves nobody waiting at a free port (R17). -/
theorem portSound_arbitrate {s : State} (h : s.orderSound) : s.arbitrate.portSound := by
  refine ⟨(keeps_arbitrate s).order h, fun hp c => ?_⟩
  rcases arbitrate_eq s with he | ⟨-, d, hd, he⟩
  · rw [he] at hp ⊢
    cases hf : s.store.order.find? s.waitsAtPort with
    | none => simpa using List.find?_eq_none.1 hf c (mem_order h c)
    | some d =>
      rw [arbitrate_of_first hp hf] at he
      exact absurd (he ▸ hp) (grant_port (List.find?_some hf))
  · rw [he] at hp
    exact absurd hp (grant_port (List.find?_some hd))

/-- What the arbiter leaves it leaves again. -/
theorem arbitrate_arbitrate (s : State) : s.arbitrate.arbitrate = s.arbitrate := by
  rcases arbitrate_eq s with h | ⟨-, c, hc, h⟩
  · rw [h, h]
  · exact arbitrate_of_busy (h ▸ grant_port (List.find?_some hc))

/-- A port set free in a step and then arbitrated passes as R17 has it. -/
theorem portPasses_arbitrate {s u : State} (hp : u.store.port = none)
    (ho : u.store.order = s.store.order) : s.portPasses u.arbitrate := by
  have hu : { u.arbitrate with
      store := { u.arbitrate.store with port := none, order := s.store.order } } = u := by
    rw [arbitrate_eq_modStore u, ← ho, ← hp]
    rfl
  simp only [State.portPasses, hu, and_self]

/-- The grant goes to the first of the grant order that waits, and to no one else (R16, R17). -/
theorem arbitrate_of_append {s : State} {before after : List Claimant} {c : Claimant}
    (hp : s.store.port = none) (ho : s.store.order = before ++ c :: after) (hn : c ∉ before)
    (hb : ∀ d ∈ before, s.waitsAtPort d = false) (hc : s.waitsAtPort c = true) :
    s.arbitrate = { s with store := { s.store with
      port := s.portRequest c, order := before ++ after ++ [c] } } := by
  have hf : s.store.order.find? s.waitsAtPort = some c := by
    rw [ho, List.find?_append, List.find?_eq_none.2 fun d hd => by simp [hb d hd]]
    simp [hc]
  have he : s.store.order.erase c = before ++ after := by
    rw [ho, List.erase_append_right _ hn, List.erase_cons_head]
  rw [arbitrate_of_first hp hf]
  simp only [State.grant, State.modStore, he]

/-- Settles O12. -/
theorem arbiterGrantsTheFirst : Obligations.ArbiterGrantsTheFirst := by
  refine ⟨fun s before after c => arbitrate_of_append, fun s h => ?_,
    fun s => ⟨waitsAtPort_iff s, fun p => rfl, ?_⟩⟩
  · rcases h with h | h
    · exact arbitrate_of_busy h
    · exact arbitrate_of_idle h
  · cases h : s.store.linkOp <;> simp [State.portRequest, h]

end Sys2Proof.Machine
end

section
/-! The store's requests (R5, R8 to R14, R102). -/

namespace Sys2Proof.Machine

/-- A request's command is the arrival of its frame (R181; log 4). -/
theorem exec_requestCommand (r : Request) (s : State) :
    exec (requestCommand r) s = .next (s.frameArrives (.request r)) := by
  cases r <;> rfl

/-- A request's command at an accepting part hands it to its block at once (R181, R182). -/
theorem exec_of_accepts {s : State} (h : s.accepts) (r : Request) :
    exec (requestCommand r) s = .next ((s.serving r).takeRequest r) := by
  rw [exec_requestCommand, frameArrives_of_accepts h]

/-- A request that becomes the link store operation is granted a free port at once, since nobody else
waits there; it waits at a port in use (R8, R16, R17). -/
theorem startLinkOp_eq_withLinkOp {s : State} (h : s.portSound) (op : LinkOp) : s.startLinkOp op = s.withLinkOp op := by
  obtain ⟨ho, hw⟩ := h
  let u : State := s.modStore fun st => { st with linkOp := some op }
  show u.arbitrate = _
  cases hp : s.store.port with
  | some x =>
    have hu : u.store.port ≠ none := by simp [u, hp]
    rw [arbitrate_of_busy hu]
    simp [u, State.withLinkOp, State.modStore, hp]
  | none =>
    have hctx : ∀ p, u.waitsAtPort (.ctx p) = false := fun p => hw hp (.ctx p)
    have hlink : u.waitsAtPort .link = true := by simp [u, State.waitsAtPort, hp]
    have hf : u.store.order.find? u.waitsAtPort = some .link := by
      cases hd : u.store.order.find? u.waitsAtPort with
      | none => exact absurd hlink (List.find?_eq_none.1 hd _ (mem_order (s := s) ho .link))
      | some d =>
        cases d with
        | link => rfl
        | ctx p => exact absurd (List.find?_some hd) (by simp [hctx p])
    rw [arbitrate_of_first (s := u) hp hf]
    simp [u, State.withLinkOp, State.modStore, State.grant, State.portRequest, hp]

/-! ### The checks -/

theorem readFieldsOk_iff (address : Half) (length : Byte) :
    readFieldsOk address length = true ↔
      0 < length.toNat ∧ length.toNat ≤ 224 ∧ address.toNat + length.toNat ≤ 65536 := by
  have h0 : length ≠ 0 ↔ 0 < length.toNat := by
    rw [ne_eq, ← BitVec.toNat_inj]
    exact Nat.pos_iff_ne_zero.symm
  simp only [readFieldsOk, Bool.and_eq_true, bne_iff_ne, h0, decide_eq_true_eq, and_assoc]
  rfl

theorem programFieldsOk_iff (word : Half) (data : List Byte) :
    programFieldsOk word data = true ↔
      word.toNat < 16384 ∧ 0 < data.length ∧ data.length % 4 = 0 ∧ data.length ≤ 224
        ∧ word.toNat + data.length / 4 ≤ 16384 := by
  simp only [programFieldsOk, Bool.and_eq_true, bne_iff_ne, beq_iff_eq, decide_eq_true_eq, and_assoc,
    ← Nat.pos_iff_ne_zero]
  rfl

theorem programWritable_iff (mask : Half) (word n : Nat) :
    programWritable mask word n = true ↔
      ∀ i : Fin n, mask.getLsbD ((word + i.val) / 1024) = true := by
  simp only [programWritable, writable, wordBank, List.all_eq_true, List.mem_range]
  exact ⟨fun h i => h i.val i.isLt, fun h i hi => h ⟨i, hi⟩⟩

/-! ### Requests that are taken -/

theorem exec_setWriteEnable {s : State} (h : s.accepts) (mask key : Half) :
    exec (.setWriteEnable mask key) s = .next
      (if key = mask ^^^ 0xFFFF then
        (s.ack (.setWriteEnable mask key)).modStore fun st => { st with mask := mask }
       else s.refuse (.setWriteEnable mask key) .key) := by
  refine (exec_of_accepts h (.setWriteEnable mask key)).trans (congrArg _ ?_)
  show (s.serving _).takeWriteEnable mask key = _
  unfold State.takeWriteEnable
  by_cases hk : key = mask ^^^ 0xFFFF
  · simp only [hk, bne_self_eq_false, Bool.false_eq_true, if_false, if_true]
    rfl
  · simp only [hk, bne_iff_ne, ne_eq, not_false_eq_true, if_true, if_false]
    rfl

theorem exec_storeRead_of_taken {s : State} (h : s.accepts) (hp : s.portSound)
    (hl : s.store.linkOp = none) {address : Half} {length : Byte} (hk : s.store.lockActive = false)
    (hf : readFieldsOk address length = true) :
    exec (.storeRead address length) s = .next
      ((s.serving (.storeRead address length)).withLinkOp (.read address length)) := by
  refine (exec_of_accepts h (.storeRead address length)).trans (congrArg _ ?_)
  show (s.serving _).takeStoreRead address length = _
  rw [← startLinkOp_eq_withLinkOp (s := s.serving _) hp]
  simp [State.takeStoreRead, hf, hk, hl]

theorem exec_storeProgram_of_taken {s : State} (h : s.accepts) (hp : s.portSound)
    (hl : s.store.linkOp = none) {word : Half} {data : List Byte} (hk : s.store.lockActive = false)
    (hf : programFieldsOk word data = true)
    (hw : programWritable s.store.mask word.toNat (data.length / 4) = true) :
    exec (.storeProgram word data) s = .next
      ((s.ack (.storeProgram word data)).withLinkOp (.program word.toNat data)) := by
  refine (exec_of_accepts h (.storeProgram word data)).trans (congrArg _ ?_)
  show (s.serving _).takeStoreProgram word data = _
  rw [← startLinkOp_eq_withLinkOp (s := s.ack _) hp]
  simp [State.takeStoreProgram, hf, hk, hw, hl]
  rfl

theorem exec_storeEraseFrame_of_taken {s : State} (h : s.accepts) (hp : s.portSound)
    (hl : s.store.linkOp = none) {frame : Byte} (hk : s.store.lockActive = false)
    (hf : frame.toNat ≤ 127) (hw : s.store.mask.getLsbD (frame.toNat / 8) = true) :
    exec (.storeEraseFrame frame) s = .next
      ((s.ack (.storeEraseFrame frame)).withLinkOp (.eraseFrame frame.toNat)) := by
  refine (exec_of_accepts h (.storeEraseFrame frame)).trans (congrArg _ ?_)
  show (s.serving _).takeEraseFrame frame = _
  rw [← startLinkOp_eq_withLinkOp (s := s.ack _) hp]
  simp [State.takeEraseFrame, Nat.not_lt.2 hf, hk, writable, hw, hl]
  rfl

theorem exec_storeEraseAll_of_taken {s : State} (h : s.accepts) (hp : s.portSound)
    (hl : s.store.linkOp = none) (hm : s.store.mask = 0xFFFF) :
    exec .storeEraseAll s = .next ((s.ack .storeEraseAll).withLinkOp .eraseAll) := by
  refine (exec_of_accepts h .storeEraseAll).trans (congrArg _ ?_)
  show (s.serving _).takeEraseAll = _
  rw [← startLinkOp_eq_withLinkOp (s := s.ack _) hp]
  simp [State.takeEraseAll, hm, hl]
  rfl

theorem exec_reloadCurves_of_taken {s : State} (h : s.accepts) (hp : s.portSound)
    (hl : s.store.linkOp = none) :
    exec .reloadCurves s = .next ((s.serving .reloadCurves).withLinkOp .reloadCurves) := by
  refine (exec_of_accepts h .reloadCurves).trans (congrArg _ ?_)
  show (s.serving _).takeReloadCurves = _
  rw [← startLinkOp_eq_withLinkOp (s := s.serving _) hp]
  simp [State.takeReloadCurves, hl]

/-- Settles O7: each request's checks pass, and its block's own rule then starts the operation. -/
theorem storeRequestsAreTaken : Obligations.StoreRequestsAreTaken := by
  refine ⟨fun s mask key h => exec_setWriteEnable h mask key, fun s h hp hl =>
    ⟨fun address length hk h0 h1 h2 => ?_, fun word data hk h0 h1 h2 h3 hw => ?_,
      fun frame hk hf hw => exec_storeEraseFrame_of_taken h hp hl hk hf hw,
      exec_storeEraseAll_of_taken h hp hl, exec_reloadCurves_of_taken h hp hl⟩⟩
  · exact exec_storeRead_of_taken h hp hl hk ((readFieldsOk_iff _ _).2 ⟨h0, h1, h2⟩)
  · exact exec_storeProgram_of_taken h hp hl hk
      ((programFieldsOk_iff _ _).2 ⟨by omega, h0, h1, h2, h3⟩) ((programWritable_iff _ _ _).2 hw)

/-! ### Requests that are refused -/

/-- A request that its block refuses is answered with the refusal, and its service leaves no trace. -/
theorem exec_of_refused {s : State} (h : s.accepts) {r : Request} {why : Reason}
    (hr : (s.serving r).takeRequest r = (s.serving r).refuse r why) :
    exec (requestCommand r) s = .next (s.refuse r why) := by
  rw [exec_of_accepts h, hr]
  rfl

theorem storeRead_refused {s : State} (h : s.accepts) (address : Half) (length : Byte) :
    let answer := fun why => exec (.storeRead address length) s
      = .next (s.refuse (.storeRead address length) why)
    if length.toNat = 0 ∨ 224 < length.toNat ∨ 65536 < address.toNat + length.toNat then
      answer .badField
    else if s.store.lockActive = true then answer .locked
    else s.store.linkOp ≠ none → answer .busy := by
  have hf : readFieldsOk address length = false ↔
      length.toNat = 0 ∨ 224 < length.toNat ∨ 65536 < address.toNat + length.toNat := by
    rw [← Bool.not_eq_true, readFieldsOk_iff]
    omega
  dsimp only
  simp only [← hf]
  split_ifs with h1 h2
  · exact exec_of_refused h (r := .storeRead address length)
      (by simp [State.takeRequest, State.takeStoreRead, h1])
  · exact exec_of_refused h (r := .storeRead address length)
      (by simp [State.takeRequest, State.takeStoreRead, h1, h2])
  · intro h3
    exact exec_of_refused h (r := .storeRead address length)
      (by simp [State.takeRequest, State.takeStoreRead, h1, h2, Option.isSome_iff_ne_none.2 h3])

theorem storeProgram_refused {s : State} (h : s.accepts) (word : Half) (data : List Byte) :
    let answer := fun why => exec (.storeProgram word data) s
      = .next (s.refuse (.storeProgram word data) why)
    if 16383 < word.toNat ∨ data.length = 0 ∨ data.length % 4 ≠ 0 ∨ 224 < data.length
        ∨ 16384 < word.toNat + data.length / 4 then answer .badField
    else if s.store.lockActive = true then answer .locked
    else if ∃ i : Fin (data.length / 4),
        s.store.mask.getLsbD ((word.toNat + i.val) / 1024) = false then answer .protected_
    else s.store.linkOp ≠ none → answer .busy := by
  have hf : programFieldsOk word data = false ↔
      16383 < word.toNat ∨ data.length = 0 ∨ data.length % 4 ≠ 0 ∨ 224 < data.length
        ∨ 16384 < word.toNat + data.length / 4 := by
    rw [← Bool.not_eq_true, programFieldsOk_iff]
    omega
  have hw : programWritable s.store.mask word.toNat (data.length / 4) = false ↔
      ∃ i : Fin (data.length / 4),
        s.store.mask.getLsbD ((word.toNat + i.val) / 1024) = false := by
    rw [← Bool.not_eq_true, programWritable_iff]
    simp
  dsimp only
  simp only [← hf, ← hw]
  split_ifs with h1 h2 h3
  · exact exec_of_refused h (r := .storeProgram word data)
      (by simp [State.takeRequest, State.takeStoreProgram, h1])
  · exact exec_of_refused h (r := .storeProgram word data)
      (by simp [State.takeRequest, State.takeStoreProgram, h1, h2])
  · exact exec_of_refused h (r := .storeProgram word data)
      (by simp [State.takeRequest, State.takeStoreProgram, h1, h2, h3])
  · intro h4
    exact exec_of_refused h (r := .storeProgram word data)
      (by simp [State.takeRequest, State.takeStoreProgram, h1, h2, h3,
        Option.isSome_iff_ne_none.2 h4])

theorem storeEraseFrame_refused {s : State} (h : s.accepts) (frame : Byte) :
    let answer := fun why => exec (.storeEraseFrame frame) s
      = .next (s.refuse (.storeEraseFrame frame) why)
    if 127 < frame.toNat then answer .badField
    else if s.store.lockActive = true then answer .locked
    else if s.store.mask.getLsbD (frame.toNat / 8) = false then answer .protected_
    else s.store.linkOp ≠ none → answer .busy := by
  dsimp only
  split_ifs with h1 h2 h3
  · exact exec_of_refused h (r := .storeEraseFrame frame)
      (by simp [State.takeRequest, State.takeEraseFrame, h1])
  · exact exec_of_refused h (r := .storeEraseFrame frame)
      (by simp [State.takeRequest, State.takeEraseFrame, h1, h2])
  · exact exec_of_refused h (r := .storeEraseFrame frame)
      (by simp [State.takeRequest, State.takeEraseFrame, h1, h2, writable, h3])
  · intro h4
    exact exec_of_refused h (r := .storeEraseFrame frame)
      (by simp [State.takeRequest, State.takeEraseFrame, h1, h2, writable, h3,
        Option.isSome_iff_ne_none.2 h4])

theorem storeEraseAll_refused {s : State} (h : s.accepts) :
    if s.store.mask ≠ 0xFFFF then
      exec .storeEraseAll s = .next (s.refuse .storeEraseAll .protected_)
    else s.store.linkOp ≠ none →
      exec .storeEraseAll s = .next (s.refuse .storeEraseAll .busy) := by
  split_ifs with h1
  · exact exec_of_refused h (r := .storeEraseAll) (if_pos (bne_iff_ne.2 h1))
  · intro h2
    exact exec_of_refused h (r := .storeEraseAll) ((if_neg (by rwa [bne_iff_ne])).trans
      (if_pos (Option.isSome_iff_ne_none.2 h2)))

theorem reloadCurves_refused {s : State} (h : s.accepts) (hl : s.store.linkOp ≠ none) :
    exec .reloadCurves s = .next (s.refuse .reloadCurves .busy) :=
  exec_of_refused h (r := .reloadCurves)
    (by simp [State.takeRequest, State.takeReloadCurves, Option.isSome_iff_ne_none.2 hl])

/-- Settles O8: each request's checks in their order, one lemma a request. -/
theorem storeRequestsAreRefusedInOrder : Obligations.StoreRequestsAreRefusedInOrder :=
  fun _ h => ⟨storeRead_refused h, storeProgram_refused h, storeEraseFrame_refused h,
    storeEraseAll_refused h, reloadCurves_refused h⟩

end Sys2Proof.Machine
end

section
/-! The mixer's operations change the mixer and the duties of the output stage, and nothing else. -/

namespace Sys2Proof.Machine

/-- Nothing but the mixer and the output stage differs. -/
structure MixOnly (s t : State) : Prop where
  eq : t = { s with mix := t.mix, out := t.out }

theorem MixOnly.refl (s : State) : MixOnly s s := ⟨rfl⟩

theorem MixOnly.trans {s t u : State} (h : MixOnly s t) (k : MixOnly t u) : MixOnly s u :=
  ⟨by rw [k.eq, h.eq]⟩

theorem MixOnly.foldl {α : Type} {f : State → α → State} (h : ∀ s a, MixOnly s (f s a)) (l : List α)
    (s : State) : MixOnly s (l.foldl f s) := by
  induction l generalizing s with
  | nil => exact MixOnly.refl s
  | cons a l ih => exact (h s a).trans (ih _)

section
variable {s t : State} (h : MixOnly s t)
include h

theorem MixOnly.store : t.store = s.store := by rw [h.eq]
theorem MixOnly.contexts : t.contexts = s.contexts := by rw [h.eq]
theorem MixOnly.ctx (p : Ctx) : t.ctx p = s.ctx p := by simp only [State.ctx, h.contexts]
theorem MixOnly.cells : t.cells = s.cells := by rw [h.eq]
theorem MixOnly.trig : t.trig = s.trig := by rw [h.eq]
theorem MixOnly.clk : t.clk = s.clk := by rw [h.eq]
theorem MixOnly.link : t.link = s.link := by rw [h.eq]
theorem MixOnly.reports : t.reports = s.reports := by rw [h.eq]
theorem MixOnly.posts : t.posts = s.posts := by rw [h.eq]
theorem MixOnly.owed : t.owed = s.owed := by rw [h.eq]
theorem MixOnly.pending : t.pending = s.pending := by rw [h.eq]

end

theorem mixOnly_handDuty (s : State) (ch : Chan) (d : Half) : MixOnly s (s.handDuty ch d) := ⟨rfl⟩

theorem mixOnly_translate (s : State) (ch : Chan) : MixOnly s (s.translate ch) := by
  unfold State.translate
  dsimp only
  split
  · exact MixOnly.refl s
  · split
    · exact MixOnly.refl s
    · exact mixOnly_handDuty s ch _

theorem mixOnly_settle (s : State) (ch : Chan) : MixOnly s (s.settle ch) := by
  unfold State.settle
  split
  · exact MixOnly.refl s
  · exact MixOnly.trans ⟨rfl⟩ (mixOnly_translate _ ch)

theorem mixOnly_claimArrives (s : State) (ch : Chan) (who : Claimant) (v : Byte) (f : Nat)
    (pr : Fin 8) : MixOnly s (s.claimArrives ch who v f pr) :=
  MixOnly.trans ⟨rfl⟩ (mixOnly_settle _ ch)

theorem mixOnly_settleChanged (s : State) (b : Vector MixChannel 16) (ch : Chan) :
    MixOnly s (s.settleChanged b ch) := by
  unfold State.settleChanged
  split
  · exact MixOnly.refl s
  · exact mixOnly_settle s ch

theorem mixOnly_updateClaims (s : State) (f : Chan → Claimant → Claim → Option Claim) :
    MixOnly s (s.updateClaims f) := by
  unfold State.updateClaims
  dsimp only
  exact MixOnly.trans ⟨rfl⟩ (MixOnly.foldl (fun t ch => mixOnly_settleChanged t _ ch) _ _)

theorem mixOnly_holdClaims (s : State) (p : Ctx) : MixOnly s (s.holdClaims p) := ⟨rfl⟩

theorem mixOnly_endHold (s : State) (p : Ctx) : MixOnly s (s.endHold p) := ⟨rfl⟩

theorem mixOnly_removeClaims (s : State) (p : Ctx) : MixOnly s (s.removeClaims p) :=
  (mixOnly_updateClaims s _).trans (mixOnly_endHold _ p)

theorem mixOnly_releaseAll (s : State) (p : Ctx) (f : Nat) : MixOnly s (s.releaseAll p f) :=
  mixOnly_updateClaims s _

theorem mixOnly_releaseOthers (s : State) (p : Ctx) (l : List Chan) (f : Nat) :
    MixOnly s (s.releaseOthers p l f) := mixOnly_updateClaims s _

theorem mixOnly_advanceClaims (s : State) : MixOnly s s.advanceClaims := mixOnly_updateClaims s _

theorem mixOnly_releaseLink (s : State) (ch : Chan) (f : Nat) : MixOnly s (s.releaseLink ch f) :=
  mixOnly_updateClaims s _

theorem mixOnly_cueClaim (s : State) (p : Ctx) (cue : Cue) (e : Chan × Byte) :
    MixOnly s (s.cueClaim p cue e) := by
  unfold State.cueClaim
  split
  · exact MixOnly.refl s
  · exact mixOnly_claimArrives s _ _ _ _ _

theorem mixOnly_cueClaims (s : State) (p : Ctx) (cue : Cue) : MixOnly s (s.cueClaims p cue) := by
  have h := MixOnly.foldl (fun t e => mixOnly_cueClaim t p cue e) cue.levels s
  unfold State.cueClaims
  dsimp only
  split
  · exact h.trans (mixOnly_releaseOthers _ _ _ _)
  · exact h

theorem mixOnly_fillCurves (s : State) (slots : Vector CurveSlot 3) :
    MixOnly s (s.fillCurves slots) :=
  MixOnly.trans (t := { s with mix := { s.mix with curves := slots } }) ⟨rfl⟩
    (MixOnly.foldl mixOnly_translate _ _)

theorem mixOnly_translateAll (s : State) : MixOnly s s.translateAll :=
  MixOnly.foldl mixOnly_translate _ _

theorem mixOnly_ceaseSecondary (s : State) (ch : Chan) : MixOnly s (s.ceaseSecondary ch) := by
  unfold State.ceaseSecondary
  dsimp only
  split
  · exact ⟨rfl⟩
  · exact MixOnly.refl s

theorem mixOnly_mixConfig (s : State) (ch : Chan) (cfg : ChannelConfig) :
    MixOnly s (s.mixConfig ch cfg) := by
  have h : MixOnly s ((s.modMix ch fun c =>
      { c with arbitration := cfg.arbitration, curve := cfg.curve }).settle ch) :=
    MixOnly.trans ⟨rfl⟩ (mixOnly_settle _ ch)
  unfold State.mixConfig
  dsimp only
  split
  · exact h
  · split
    · exact h.trans ⟨rfl⟩
    · exact h.trans (mixOnly_ceaseSecondary _ _)

theorem mixOnly_outConfig (s : State) (ch : Chan) (cfg : ChannelConfig) :
    MixOnly s (s.outConfig ch cfg) := ⟨rfl⟩

theorem mixOnly_startPeriod (s : State) (ch : Chan) : MixOnly s (s.startPeriod ch) := by
  unfold State.startPeriod
  dsimp only
  split <;> exact ⟨rfl⟩

end Sys2Proof.Machine
end

section
/-! What a context's activity keeps of the port: at a free port nobody waits, since a context that begins a
resolution asks the arbiter at once (R16, R17). -/

namespace Sys2Proof.Machine

/-- The port stays sound where the store stays, its port becomes no freer, and no context begins a
resolution. -/
theorem portSound_of_same {s t : State} (h : s.portSound) (ho : t.store.order = s.store.order)
    (hl : t.store.linkOp = s.store.linkOp) (hp : t.store.port = none → s.store.port = none)
    (hc : ∀ p, (t.ctx p).activity = (s.ctx p).activity ∨ (t.ctx p).phase ≠ .fetch) :
    t.portSound := by
  obtain ⟨hperm, hw⟩ := h
  refine ⟨by rw [State.orderSound, ho]; exact hperm, fun hn c => ?_⟩
  have hs := hw (hp hn) c
  cases c with
  | ctx p =>
    rcases hc p with he | hf
    · simp only [State.waitsAtPort, he, hn] at hs ⊢
      rwa [hp hn] at hs
    · cases hr : (t.ctx p).activity with
      | fetch r pp => exact absurd (by rw [Context.phase, hr]; rfl) hf
      | _ => simp only [State.waitsAtPort, hr]
  | link =>
    simp only [State.waitsAtPort, hl, hn] at hs ⊢
    rwa [hp hn] at hs

theorem MixOnly.portSound {s t : State} (h : MixOnly s t) (hs : s.portSound) : t.portSound :=
  portSound_of_same hs (by rw [h.store]) (by rw [h.store]) (by rw [h.store]; exact id)
    fun p => .inl (by rw [h.ctx])

theorem notify_store (s : State) (n : Notice) : (s.notify n).store = s.store := by
  unfold State.notify; split <;> rfl

theorem notify_contexts (s : State) (n : Notice) : (s.notify n).contexts = s.contexts := by
  unfold State.notify; split <;> rfl

theorem notify_ctx (s : State) (n : Notice) (p : Ctx) : (s.notify n).ctx p = s.ctx p := by
  simp only [State.ctx, notify_contexts]

theorem portSound_notify {s : State} (h : s.portSound) (n : Notice) : (s.notify n).portSound :=
  portSound_of_same h (by rw [notify_store]) (by rw [notify_store]) (by rw [notify_store]; exact id)
    fun p => .inl (by rw [notify_ctx])

theorem portSound_anyOrder {α : Type} {s : State} (h : s.portSound) (l : List α) :
    (s.anyOrder l).2.portSound := by
  unfold State.anyOrder
  split <;> exact h

/-- A context that enters a phase other than FETCH. -/
theorem portSound_enter {s : State} (h : s.portSound) (p : Ctx) (a : Activity) (ha : a.phase ≠ .fetch) :
    (s.enter p a).portSound :=
  portSound_of_same h rfl rfl id fun q => by
    by_cases hq : q = p
    · exact .inr (by simpa [State.enter, hq, Context.phase] using ha)
    · exact .inl (by simp [State.enter, hq])

theorem portSound_enterIdle {s : State} (h : s.portSound) (p : Ctx) (w : Way) :
    (s.enterIdle p w).portSound := by
  have h1 : ((s.modCtx p fun c => { c with activity := .idle, current := none }).report p
      .idle).portSound :=
    portSound_of_same h rfl rfl id fun q => by
      by_cases hq : q = p
      · exact .inr (by simp [hq, Context.phase, Activity.phase])
      · exact .inl (by simp [hq])
  unfold State.enterIdle
  dsimp only
  split
  · exact portSound_notify h1 _
  · exact h1

theorem portSound_enterFaulted {s : State} (h : s.portSound) (p : Ctx) (r : FaultReason) (w : Nat) :
    (s.enterFaulted p r w).portSound :=
  portSound_notify ((mixOnly_holdClaims _ p).portSound
    (portSound_enter h p _ (by simp [Activity.phase]))) _

theorem portSound_takeClaimsGone {s : State} (h : s.portSound) (p : Ctx) :
    (s.takeClaimsGone p).portSound := by
  unfold State.takeClaimsGone
  split
  · exact portSound_enterIdle h p _
  · exact h

/-- A property that each step of a fold keeps holds at its end. -/
theorem foldl_keeps {α : Type} {P : State → Prop} {f : State → α → State}
    (h : ∀ s a, P s → P (f s a)) (l : List α) {s : State} (hs : P s) : P (l.foldl f s) := by
  induction l generalizing s with
  | nil => exact hs
  | cons a l ih => exact ih (h s a hs)

theorem portSound_takeAllGone {s : State} (h : s.portSound) (ps : List Ctx) :
    (s.takeAllGone ps).portSound :=
  foldl_keeps (P := State.portSound) (fun _ p hs => portSound_takeClaimsGone hs p) _
    (portSound_anyOrder h ps)

theorem portSound_examineField {s : State} (h : s.portSound) (p : Ctx) (f : Half) (n : Nat)
    (pp : Bool) : (s.examineField p f n pp).portSound := by
  unfold State.examineField
  split
  · exact portSound_enterIdle h p _
  · split
    · exact portSound_enterFaulted h p _ _
    · exact portSound_arbitrate h.1

theorem portSound_enterFetch {s : State} (h : s.portSound) (p : Ctx) (f : Half) :
    (s.enterFetch p f).portSound := portSound_examineField (s := s.report p .fetch) h p f 0 false

theorem portSound_completeNormally {s : State} (h : s.portSound) (p : Ctx) (cue : Cue) :
    (s.completeNormally p cue).portSound := by
  unfold State.completeNormally
  split
  · exact portSound_enterFetch h p _
  · next b _ =>
    exact portSound_enterFetch
      (s := { s with cells := s.cells.set b.cell (loopOperation s.cells[b.cell] b.reload).2 }) h p _

theorem portSound_completeFade {s : State} (h : s.portSound) (p : Ctx) (cue : Cue) :
    (s.completeFade p cue).portSound := by
  have he : ∀ a : CuePhase, (s.enter p (.running cue a)).portSound := fun a =>
    portSound_enter h p _ (by cases a <;> simp [Activity.phase])
  unfold State.completeFade
  dsimp only
  split
  · split
    · exact portSound_completeNormally (he _) p cue
    · exact he _
  · split
    · exact he _
    · split
      · exact portSound_completeNormally (he _) p cue
      · exact he _

theorem portSound_enterFade {s : State} (h : s.portSound) (p : Ctx) (cue : Cue) (n : Nat) :
    (s.enterFade p cue n).portSound := by
  have he := portSound_enter h p (.running cue (.fade n)) (by simp [Activity.phase])
  unfold State.enterFade
  dsimp only
  split
  · exact portSound_completeFade he p cue
  · exact he

theorem portSound_takePost {s : State} (h : s.portSound) (p : Ctx) (e : EventId) :
    (s.takePost p e).portSound := by
  have h1 : (s.modCtx p fun c => c.arrive e).portSound :=
    portSound_of_same h rfl rfl id fun q => .inl (by
      by_cases hq : q = p <;> simp [hq, Context.arrive])
  unfold State.takePost
  dsimp only
  split
  · split
    · exact portSound_completeNormally h1 p _
    · exact h1
  · exact h1

theorem portSound_endCount {s : State} (h : s.portSound) (p : Ctx) : (s.endCount p).portSound := by
  unfold State.endCount
  split
  · exact portSound_completeFade h p _
  · exact portSound_completeNormally h p _
  · exact portSound_enterFetch h p _
  · exact h

theorem portSound_takeGo {s : State} (h : s.portSound) (p : Ctx) (ptr : Option Half) :
    (s.takeGo p ptr).portSound := by
  unfold State.takeGo
  split
  · exact portSound_enterFetch h p _
  · exact portSound_completeNormally h p _
  · exact portSound_enterFetch h p _

/-- A context that withdraws leaves its read at the port (R19, R44). -/
theorem portSound_withdrawFetch {s : State} (h : s.portSound) (p : Ctx) :
    (s.withdrawFetch p).portSound := by
  unfold State.withdrawFetch
  split
  · split
    · exact portSound_of_same h rfl rfl (fun hn => by simp at hn) fun _ => .inl rfl
    · exact h
  · exact h

theorem portSound_takeStop {s : State} (h : s.portSound) (p : Ctx) : (s.takeStop p).portSound := by
  have h1 := (mixOnly_removeClaims s p).portSound h
  unfold State.takeStop
  dsimp only
  split
  · exact h1
  · exact portSound_enterIdle (portSound_withdrawFetch h1 p) p _
  · exact portSound_enterIdle h1 p _

theorem portSound_releaseFrom {s : State} (h : s.portSound) (p : Ctx) (f : Nat) :
    (s.releaseFrom p f).portSound := by
  have h1 := (mixOnly_releaseAll s p f).portSound h
  unfold State.releaseFrom
  dsimp only
  split
  · exact h1
  · exact portSound_takeClaimsGone h1 p

theorem portSound_takeRelease {s : State} (h : s.portSound) (p : Ctx) (f : Nat) :
    (s.takeRelease p f).portSound := by
  have he : ∀ t : State, t.portSound → ((t.enter p .releasing).releaseFrom p f).portSound :=
    fun t ht => portSound_releaseFrom (portSound_enter ht p _ (by simp [Activity.phase])) p f
  unfold State.takeRelease
  split
  · split
    · exact he s h
    · exact h
  · exact h
  · exact he s h
  · exact he _ ((mixOnly_endHold s p).portSound h)
  · exact portSound_releaseFrom h p f
  · exact he _ ((mixOnly_endHold s p).portSound h)

theorem portSound_takeResume {s : State} (h : s.portSound) (p : Ctx) (cue : Cue) (a : CuePhase) :
    (s.takeResume p cue a).portSound := by
  have h1 := (mixOnly_endHold s p).portSound h
  have he : ∀ a : CuePhase, ((s.endHold p).enter p (.running cue a)).portSound := fun a =>
    portSound_enter h1 p _ (by cases a <;> simp [Activity.phase])
  unfold State.takeResume
  dsimp only
  split
  · exact portSound_enterFade h1 p cue _
  · split
    · exact portSound_completeNormally (he _) p cue
    · exact he _
  · split
    · exact portSound_completeNormally (he _) p cue
    · exact he _
  · exact he _

theorem portSound_deliver {s : State} (h : s.portSound) (p : Ctx) (d : Delivery) :
    (s.deliver p d).portSound := by
  unfold State.deliver
  split
  · exact portSound_takeGo h p _
  · exact portSound_takeRelease h p _
  · exact portSound_takeStop h p

end Sys2Proof.Machine
end

section
/-! Whatever the deliveries, the notices and the posts keep, and the changes of TRIG's own state and of the
reports keep, is kept by every examination, firing and phase report (R155 to R160, R198). -/

namespace Sys2Proof.Machine

/-- A property of states that TRIG's elementary acts keep. -/
structure TrigKeeps (P : State → Prop) : Prop where
  deliver : ∀ {s}, P s → ∀ p d, P (s.deliver p d)
  notify : ∀ {s}, P s → ∀ n, P (s.notify n)
  post : ∀ {s}, P s → ∀ e, P (s.post e)
  free : ∀ {s}, P s → ∀ n, P { s with free := n }
  reports : ∀ {s}, P s → ∀ l, P { s with reports := l }
  trig : ∀ {s}, P s → ∀ u, P { s with trig := u }

namespace TrigKeeps

variable {P : State → Prop} (h : TrigKeeps P) {s : State}
include h

theorem offer (hs : P s) (r : DeliveryRecord) (p : Ctx) : P (s.offer r p).2.2 := by
  have hj : ∀ {t : State} (src : Source), P t → P (t.joinHeldBy src p) := by
    intro t src ht
    unfold State.joinHeldBy
    split
    · split
      · exact h.trig ht _
      · exact ht
    · exact ht
  unfold State.offer
  split
  · have hd := h.trig (h.deliver hs p r.delivery)
    dsimp only
    split
    · exact hj _ (hd _)
    · exact hd _
  · exact hs
  · exact h.notify hs _

theorem serveFixed (hs : P s) (r : DeliveryRecord) : P (s.serveFixed r).2.2 := by
  suffices hf : ∀ (l : List Ctx) (z : DeliveryRecord × State), P z.2 →
      P (l.foldl (fun (acc : DeliveryRecord × State) p =>
        if ctxIn p r.remaining then (acc.2.offer acc.1 p).2 else acc) z).2 from hf allCtx (r, s) hs
  intro l
  induction l with
  | nil => exact fun z hz => hz
  | cons p l ih =>
    intro z hz
    rw [List.foldl_cons]
    split
    · exact ih _ (h.offer hz _ p)
    · exact ih z hz

theorem serveKnown (ps : List Ctx) {s : State} (hs : P s) (r : DeliveryRecord) (ph : Phase) :
    P (s.serveKnown r ph ps).2.2 := by
  induction ps generalizing s r with
  | nil => exact hs
  | cons p ps ih =>
    unfold State.serveKnown
    split
    · have ho := h.offer hs r p
      rcases hh : s.offer r p with ⟨a, r1, s1⟩
      rw [hh] at ho
      cases a with
      | taken => exact ho
      | waits => exact ho
      | refused why => exact ih ho r1
    · exact ih hs r

theorem serveFirstIdle (hs : P s) (r : DeliveryRecord) : P (s.serveFirstIdle r).2.2 := by
  have h1 := h.serveKnown allCtx hs r .faulted
  unfold State.serveFirstIdle
  rcases hh : s.serveKnown r .faulted allCtx with ⟨c, r1, s1⟩
  rw [hh] at h1
  cases c with
  | complete => exact h1
  | stays => exact h1
  | goingOn =>
    have h2 := h.serveKnown allCtx h1 r1 .idle
    dsimp only
    rcases hk : s1.serveKnown r1 .idle allCtx with ⟨c2, r2, s2⟩
    rw [hk] at h2
    cases c2 with
    | complete => exact h2
    | stays => exact h2
    | goingOn => exact h2

theorem serveRecord (hs : P s) (r : DeliveryRecord) : P (s.serveRecord r).2.2 := by
  unfold State.serveRecord
  split
  · exact h.serveFixed hs r
  · exact h.serveFirstIdle hs r

theorem act (hs : P s) (src : Source) (f : Firing) : P (s.act src f) := by
  unfold State.act
  split
  · exact h.post hs _
  · exact h.trig hs _
  · unfold State.markCoalesced
    split <;> exact h.trig hs _
  · unfold State.markMissed
    split <;> exact h.notify (h.trig hs _) _

theorem testInWalk (hs : P s) (l : Line) : P (s.testInWalk l) := by
  unfold State.testInWalk
  split
  · exact h.act hs _ _
  · exact hs

theorem removeRecord {test : State → Line → State} (ht : ∀ s l, P s → P (test s l)) (hs : P s)
    (r : DeliveryRecord) : P (State.removeRecord test s r) := by
  have hr : P (s.restAtRemoval r) := by
    unfold State.restAtRemoval
    split
    · split
      · exact h.trig hs _
      · exact hs
    · exact hs
  exact foldl_keeps ht _ (h.trig hr _)

theorem walk (k i : Nat) {s : State} (hs : P s) : P (State.walk k i s) := by
  induction k generalizing i s with
  | zero => exact hs
  | succ k ih =>
    unfold State.walk
    split
    · exact hs
    · next r _ =>
      split
      · exact ih _ hs
      · have h1 := h.serveRecord hs r
        rcases hh : s.serveRecord r with ⟨r1, done, s1⟩
        rw [hh] at h1
        dsimp only at h1 ⊢
        split
        · exact ih _ (h.removeRecord (fun _ l ht => h.testInWalk ht l) (h.trig h1 _) _)
        · exact ih _ (h.trig h1 _)

theorem walkOnce (hs : P s) : P s.walkOnce.1 :=
  h.reports (h.walk walkBound 0 (h.reports hs [])) _

theorem testOwing {ex : State → List Report → State} (he : ∀ s o, P s → P (ex s o)) (l : List Line)
    (z : State × List Report) (hz : P z.1) : P (l.foldl (State.testOwing ex) z).1 := by
  induction l generalizing z with
  | nil => exact hz
  | cons a l ih =>
    refine ih _ ?_
    unfold State.testOwing
    split
    · dsimp only
      split
      · exact he _ _ (h.act hz _ _)
      · exact h.act hz _ _
    · exact hz

theorem takeReportWith {ex : State → List Report → State} (he : ∀ s o, P s → P (ex s o)) (hs : P s)
    (r : Report) (owed : List Report) : P (s.takeReportWith ex r owed) := by
  unfold State.takeReportWith
  dsimp only
  split
  · exact he _ _ (h.testOwing he _ (_, owed) (h.trig (h.trig hs _) _))
  · exact he _ _ (h.trig hs _)

theorem takeOwed (k : Nat) {s : State} (hs : P s) (owed : List Report) :
    P (State.takeOwed k s owed) := by
  induction k generalizing s owed with
  | zero => exact h.reports hs _
  | succ k ih =>
    cases owed with
    | nil => exact hs
    | cons r rs =>
      have he : ∀ (t : State) (o : List Report), P t →
          P (State.takeOwed k t.walkOnce.1 (o ++ t.walkOnce.2)) :=
        fun t o ht => ih (h.walkOnce ht) _
      unfold State.takeOwed
      dsimp only
      split
      · exact h.takeReportWith he (h.reports hs _) _ _
      · exact h.takeReportWith he hs _ _

theorem examineOwing (hs : P s) (owed : List Report) : P (s.examineOwing owed) :=
  h.takeOwed _ (h.walkOnce hs) _

theorem examine (hs : P s) : P s.examine := h.examineOwing hs []

theorem fire (hs : P s) (src : Source) (f : Firing) : P (s.fire src f) := by
  unfold State.fire
  split
  · exact h.examine (h.act hs src f)
  · exact h.act hs src f

theorem testLevel (hs : P s) (l : Line) : P (s.testLevel l) := by
  unfold State.testLevel
  split
  · exact h.fire hs _ _
  · exact hs

theorem takeReport (hs : P s) (r : Report) : P (s.takeReport r) :=
  h.takeReportWith (fun _ o ht => h.examineOwing ht o) hs r []

theorem fireMatcher (hs : P s) (m : Fin 2) : P (s.fireMatcher m) := h.fire (h.notify hs _) _ _

theorem offerChange (hs : P s) (l : Line) (high : Bool) : P (s.offerChange l high) := by
  have ho : ∀ {t : State} (ms : List (Fin 2)), P t → P (t.anyOrder ms).2 := by
    intro t ms ht
    unfold State.anyOrder
    split
    · exact ht
    · exact ht
    · exact h.free ht _
  have h1 : P ((s.modMatcher 0 fun _ => ((s.trig.matchers[0]).take l high).1).modMatcher 1
      fun _ => ((s.trig.matchers[1]).take l high).1) := h.trig (h.trig hs _) _
  exact foldl_keeps (P := P) (fun _ m ht => h.fireMatcher ht m) _ (ho _ h1)

theorem entryChange (hs : P s) (l : Line) : P (s.entryChange l) := by
  unfold State.entryChange
  dsimp only
  split
  · split
    · exact h.fire hs _ _
    · exact hs
  · split
    · exact h.testLevel hs l
    · exact h.trig hs _

theorem acceptChange (hs : P s) (l : Line) (high : Bool) : P (s.acceptChange l high) := by
  have h1 : P (s.modLine l fun f => { f with high := high, run := 0 }) := h.trig hs _
  have h2 : ∀ t : State, P t → P (if (t.entryChange l).groupEnabled l
      then (t.entryChange l).offerChange l high else t.entryChange l) := by
    intro t ht
    split
    · exact h.offerChange (h.entryChange ht l) l high
    · exact h.entryChange ht l
  unfold State.acceptChange
  dsimp only
  refine h2 _ ?_
  split
  · exact h.notify h1 _
  · exact h1

theorem takeFirstSample (hs : P s) (l : Line) (high : Bool) : P (s.takeFirstSample l high) :=
  h.testLevel (h.trig hs _) l

theorem expireRecord (hs : P s) (src : Source) : P (s.expireRecord src) := by
  unfold State.expireRecord
  split
  · exact hs
  · exact h.removeRecord (fun _ l ht => h.testLevel ht l) (h.notify hs _) _

theorem tickTrig (hs : P s) : P s.tickTrig := by
  have h1 : P ((s.modMatcher 0 Matcher.tick).modMatcher 1 Matcher.tick) := h.trig (h.trig hs _) _
  exact foldl_keeps (P := P) (fun _ src ht => h.expireRecord ht src) _ (h.trig h1 _)

end TrigKeeps

/-- TRIG keeps the port sound: only its deliveries touch the port. -/
theorem trigKeeps_portSound : TrigKeeps State.portSound where
  deliver h p d := portSound_deliver h p d
  notify h n := portSound_notify h n
  post h _ := h
  free h _ := h
  reports h _ := h
  trig h _ := h

end Sys2Proof.Machine
end

section
/-! What a command keeps that neither completes a program or an erase nor resets the part: the waiting
commands, the array, and the soundness of the store, the port and the two queues. -/

namespace Sys2Proof.Machine

/-- What every command keeps but the completions of programs and erases and the resets. -/
structure StepKeeps (s t : State) : Prop where
  pending : t.pending = s.pending
  array : t.store.cells = s.store.cells
  storeSound : s.storeSound → t.storeSound
  portSound : s.portSound → t.portSound
  queueSound : s.queueSound → t.queueSound
  outboundSound : s.outboundSound → t.outboundSound

theorem StepKeeps.refl (s : State) : StepKeeps s s := ⟨rfl, rfl, id, id, id, id⟩

theorem StepKeeps.trans {s t u : State} (h : StepKeeps s t) (k : StepKeeps t u) : StepKeeps s u where
  pending := k.pending.trans h.pending
  array := k.array.trans h.array
  storeSound := k.storeSound ∘ h.storeSound
  portSound := k.portSound ∘ h.portSound
  queueSound := k.queueSound ∘ h.queueSound
  outboundSound := k.outboundSound ∘ h.outboundSound

theorem StepKeeps.foldl {α : Type} {f : State → α → State} (h : ∀ s a, StepKeeps s (f s a))
    (l : List α) (s : State) : StepKeeps s (l.foldl f s) := by
  induction l generalizing s with
  | nil => exact StepKeeps.refl s
  | cons a l ih => exact (h s a).trans (ih _)

/-- The operations whose request is answered when it is taken (R11, R13, R14); the others are answered
when they complete (R9, R102). -/
def LinkOp.answeredAtOnce : LinkOp → Bool
  | .read _ _ => false
  | .reloadCurves => false
  | _ => true

theorem serviceHeld_iff (s : State) :
    s.serviceHeld ↔ ∀ op ∈ s.store.linkOp, op.answeredAtOnce = false →
      s.link.service.isSome = true := by
  unfold State.serviceHeld
  generalize s.store.linkOp = o
  generalize s.link.service.isSome = b
  cases o with
  | none => exact ⟨fun _ _ h => (by cases h), fun _ => trivial⟩
  | some op =>
    have hop : (∀ o ∈ some op, o.answeredAtOnce = false → b = true)
        ↔ (op.answeredAtOnce = false → b = true) :=
      ⟨fun h => h op rfl, fun h o ho => by cases ho; exact h⟩
    rw [hop]
    cases op with
    | read _ _ => exact ⟨fun h _ => h, fun h => h rfl⟩
    | program _ _ => exact ⟨fun _ h => (by cases h), fun _ => trivial⟩
    | eraseFrame _ => exact ⟨fun _ h => (by cases h), fun _ => trivial⟩
    | eraseAll => exact ⟨fun _ h => (by cases h), fun _ => trivial⟩
    | reloadCurves => exact ⟨fun h _ => h, fun h => h rfl⟩

/-- A state with the same store operation, reply count and service holds its service alike. -/
theorem outboundSound_congr {s t : State} (hn : s.link.notices ≤ Config.noticeSlots →
      t.link.notices ≤ Config.noticeSlots) (hr : t.link.replies = s.link.replies)
    (hv : t.link.service = s.link.service) (hl : t.store.linkOp = s.store.linkOp)
    (h : s.outboundSound) : t.outboundSound := by
  obtain ⟨h1, h2, h3⟩ := h
  rw [serviceHeld_iff] at h3
  exact ⟨hn h1, by rw [hr, hv]; exact h2, (serviceHeld_iff t).2 (by rw [hl, hv]; exact h3)⟩

theorem storeSound_congr {s t : State} (ha : t.store.cells = s.store.cells)
    (hl : t.store.linkOp = s.store.linkOp) (h : s.storeSound) : t.storeSound := by
  simpa only [State.storeSound, ha, hl] using h

/-- A context's or TRIG's activity queues notices alone. -/
theorem Keeps.replies {s t : State} (h : Keeps s t) : t.link.replies = s.link.replies := by
  obtain ⟨l, hl, hn⟩ := h.outbound
  have h0 : l.countP OutFrame.isReply = 0 :=
    List.countP_eq_zero.2 fun f hf => by simp [hn f hf]
  simp only [Link.replies, hl, List.countP_append, h0, Nat.add_zero]

theorem Keeps.stepKeeps {s t : State} (h : Keeps s t) (hp : s.portSound → t.portSound) :
    StepKeeps s t where
  pending := h.pending
  array := h.array
  storeSound := storeSound_congr h.array h.linkOp
  portSound := hp
  queueSound := h.queue
  outboundSound := outboundSound_congr h.notices h.replies h.service h.linkOp

/-- A change of what none of the four is about. -/
theorem StepKeeps.of_same {s t : State} (hp : t.pending = s.pending)
    (hs : t.store = { s.store with mask := t.store.mask, lockActive := t.store.lockActive })
    (hc : ∀ p, (t.ctx p).activity = (s.ctx p).activity ∨ (t.ctx p).phase ≠ .fetch)
    (hq : t.trig.queue = s.trig.queue) (ho : t.link.outbound = s.link.outbound)
    (hv : t.link.service = s.link.service) : StepKeeps s t := by
  have ha : t.store.cells = s.store.cells := by rw [hs]
  have hl : t.store.linkOp = s.store.linkOp := by rw [hs]
  exact {
    pending := hp
    array := ha
    storeSound := storeSound_congr ha hl
    portSound := fun h => portSound_of_same h (by rw [hs]) hl (by rw [hs]; exact id) hc
    queueSound := by simp only [State.queueSound, hq, imp_self]
    outboundSound := outboundSound_congr (by simp only [Link.notices, ho, imp_self])
      (by simp only [Link.replies, ho]) hv hl }

theorem MixOnly.stepKeeps {s t : State} (h : MixOnly s t) : StepKeeps s t :=
  .of_same h.pending (by rw [h.store]) (fun p => .inl (by rw [h.ctx])) (by rw [h.trig])
    (by rw [h.link]) (by rw [h.link])

/-! ### The link's operations -/

theorem reply_replies (s : State) (x : Reply) :
    (s.reply x).link.replies = s.link.replies + 1 := by
  simp [reply_eq, Link.replies, OutFrame.isReply]

theorem reply_notices (s : State) (x : Reply) : (s.reply x).link.notices = s.link.notices := by
  simp [reply_eq, Link.notices, OutFrame.isReply]

theorem reply_service (s : State) (x : Reply) : (s.reply x).link.service = none := by
  rw [reply_eq]

/-- A reply that finds a slot, to a request whose answer does not wait for the store. -/
theorem outboundSound_reply {s : State} (x : Reply) (hn : s.link.notices ≤ Config.noticeSlots)
    (hr : s.link.replies < Config.replySlots)
    (hl : ∀ op ∈ s.store.linkOp, op.answeredAtOnce = true) : (s.reply x).outboundSound := by
  refine ⟨by rw [reply_notices]; exact hn, ?_, (serviceHeld_iff _).2 fun op hop hf => ?_⟩
  · rw [reply_replies, reply_service]
    exact hr
  · rw [hl op hop] at hf
    cases hf

/-- A reply that is made while nothing is in service and a slot is free. -/
theorem stepKeeps_reply {s : State} (hs : s.link.service = none)
    (hr : s.link.replies < Config.replySlots) (x : Reply) : StepKeeps s (s.reply x) where
  pending := rfl
  array := rfl
  storeSound := id
  portSound := id
  queueSound := id
  outboundSound := fun h => outboundSound_reply x h.1 hr fun op hop => by
    have := (serviceHeld_iff s).1 h.2.2 op hop
    rw [hs] at this
    simpa using this

theorem stepKeeps_notify (s : State) (n : Notice) : StepKeeps s (s.notify n) :=
  (keeps_notify s n).toKeeps.stepKeeps fun h => portSound_notify h n

/-- A request that comes into service keeps a reply slot for its answer (R183). -/
theorem stepKeeps_serving {s : State} (hr : s.link.replies < Config.replySlots)
    (r : Request) : StepKeeps s (s.serving r) where
  pending := rfl
  array := rfl
  storeSound := id
  portSound := id
  queueSound := id
  outboundSound := fun h =>
    ⟨h.1, Nat.succ_le_of_lt hr, (serviceHeld_iff _).2 fun _ _ _ => rfl⟩

/-- A request that becomes the link store operation: a program lies within the array, and a request whose
answer waits for the operation is in service (R8, R9, R11, R102). -/
theorem stepKeeps_startLinkOp {s : State} {op : LinkOp} (ha : op.inArray)
    (hv : s.link.service.isSome = true ∨ op.answeredAtOnce = true) :
    StepKeeps s (s.startLinkOp op) := by
  let u : State := s.modStore fun st => { st with linkOp := some op }
  have hk : Keeps u u.arbitrate := (keeps_arbitrate u).toKeeps
  have hlink : (s.startLinkOp op).store.linkOp = some op := hk.linkOp
  refine {
    pending := hk.pending
    array := hk.array
    storeSound := fun h => ⟨by rw [State.startLinkOp, hk.array]; exact h.1, ?_⟩
    portSound := fun h => portSound_arbitrate (s := u) h.1
    queueSound := hk.queue
    outboundSound := fun h => outboundSound_congr (s := u) hk.notices hk.replies hk.service hk.linkOp
      ⟨h.1, h.2.1, (serviceHeld_iff u).2 fun o ho hf => ?_⟩ }
  · intro o ho
    rw [hlink] at ho
    cases ho
    exact ha
  · cases ho
    rcases hv with hv | hv
    · exact hv
    · rw [hv] at hf
      cases hf

/-! ### The examinations and firings -/

theorem stepKeeps_examine (s : State) : StepKeeps s s.examine :=
  (keeps_examine s).stepKeeps trigKeeps_portSound.examine

theorem stepKeeps_testLevel (s : State) (l : Line) : StepKeeps s (s.testLevel l) :=
  (keeps_testLevel s l).stepKeeps fun h => trigKeeps_portSound.testLevel h l

theorem stepKeeps_fire (s : State) (src : Source) (f : Firing) : StepKeeps s (s.fire src f) :=
  (keeps_fire s src f).stepKeeps fun h => trigKeeps_portSound.fire h src f

theorem stepKeeps_fireMatcher (s : State) (m : Fin 2) : StepKeeps s (s.fireMatcher m) :=
  (keeps_fireMatcher s m).stepKeeps fun h => trigKeeps_portSound.fireMatcher h m

theorem stepKeeps_takeReport (s : State) (r : Report) : StepKeeps s (s.takeReport r) :=
  (keeps_takeReport s r).stepKeeps fun h => trigKeeps_portSound.takeReport h r

theorem stepKeeps_expireRecord (s : State) (src : Source) : StepKeeps s (s.expireRecord src) :=
  (keeps_expireRecord s src).stepKeeps fun h => trigKeeps_portSound.expireRecord h src

theorem stepKeeps_anyOrder {α : Type} (s : State) (l : List α) : StepKeeps s (s.anyOrder l).2 :=
  (keeps_anyOrder s l).toKeeps.stepKeeps fun h => portSound_anyOrder h l

/-- A change of TRIG's state beside the pending trigger queue. -/
theorem stepKeeps_trig (s : State) (u : TriggerUnit) (h : u.queue = s.trig.queue) :
    StepKeeps s { s with trig := u } :=
  .of_same rfl rfl (fun _ => .inl rfl) h rfl rfl

theorem stepKeeps_offerChange (s : State) (l : Line) (high : Bool) :
    StepKeeps s (s.offerChange l high) := by
  have h1 : StepKeeps s ((s.modMatcher 0 fun _ => ((s.trig.matchers[0]).take l high).1).modMatcher 1
      fun _ => ((s.trig.matchers[1]).take l high).1) := stepKeeps_trig s _ rfl
  exact (h1.trans (stepKeeps_anyOrder _ _)).trans (StepKeeps.foldl stepKeeps_fireMatcher _ _)

theorem stepKeeps_entryChange (s : State) (l : Line) : StepKeeps s (s.entryChange l) := by
  unfold State.entryChange
  dsimp only
  split
  · split
    · exact stepKeeps_fire s _ _
    · exact StepKeeps.refl s
  · split
    · exact stepKeeps_testLevel s l
    · exact stepKeeps_trig s _ rfl

theorem stepKeeps_acceptChange (s : State) (l : Line) (high : Bool) :
    StepKeeps s (s.acceptChange l high) := by
  have h1 : StepKeeps s (s.modLine l fun f => { f with high := high, run := 0 }) :=
    stepKeeps_trig s _ rfl
  have h2 : ∀ t : State, StepKeeps t (if (t.entryChange l).groupEnabled l
      then (t.entryChange l).offerChange l high else t.entryChange l) := by
    intro t
    split
    · exact (stepKeeps_entryChange t l).trans (stepKeeps_offerChange _ l high)
    · exact stepKeeps_entryChange t l
  unfold State.acceptChange
  dsimp only
  refine StepKeeps.trans ?_ (h2 _)
  split
  · exact h1.trans (stepKeeps_notify _ _)
  · exact h1

theorem stepKeeps_tickTrig (s : State) : StepKeeps s s.tickTrig := by
  have h1 : StepKeeps s ((s.modMatcher 0 Matcher.tick).modMatcher 1 Matcher.tick) :=
    stepKeeps_trig s _ rfl
  refine h1.trans (StepKeeps.trans ?_ (StepKeeps.foldl stepKeeps_expireRecord _ _))
  refine (keeps_setQueue _ _ fun h => ⟨by simpa using h.1, ?_⟩).stepKeeps fun h => h
  have hs : (DeliveryRecord.source ∘ DeliveryRecord.tick) = DeliveryRecord.source := rfl
  rw [List.map_map, hs]
  exact h.2

/-! ### The mixer and the output stage -/

theorem stepKeeps_takeAllGone (s : State) (ps : List Ctx) : StepKeeps s (s.takeAllGone ps) :=
  (keeps_takeAllGone s ps).toKeeps.stepKeeps fun h => portSound_takeAllGone h ps

/-- A change of the output stage alone. -/
theorem stepKeeps_out (s : State) (o : Output) : StepKeeps s { s with out := o } :=
  .of_same rfl rfl (fun _ => .inl rfl) rfl rfl rfl

theorem stepKeeps_setSource (s : State) (k : Fin 2) (f : FaultSource) :
    StepKeeps s (s.setSource k f) := by
  unfold State.setSource
  dsimp only
  split
  · exact stepKeeps_out s _
  · refine StepKeeps.trans ?_ (stepKeeps_notify _ _)
    split
    · exact stepKeeps_out s _
    · exact stepKeeps_out s _

theorem stepKeeps_configureChannel (s : State) (ch : Chan) (cfg : ChannelConfig) :
    StepKeeps s (s.configureChannel ch cfg) :=
  ((mixOnly_mixConfig s ch cfg).trans (mixOnly_outConfig _ ch cfg)).stepKeeps.trans
    (stepKeeps_takeAllGone _ _)

end Sys2Proof.Machine
end

section
/-! What a request's service keeps (R182): it is answered and then acts, or it becomes the link store
operation. -/

namespace Sys2Proof.Machine

/-- A reply has been made, and what came after it keeps what commands keep. -/
def Answered (s t : State) : Prop := ∃ x, StepKeeps (s.reply x) t

theorem answered_reply (s : State) (x : Reply) : Answered s (s.reply x) := ⟨x, StepKeeps.refl _⟩

theorem answered_refuse (s : State) (r : Request) (why : Reason) : Answered s (s.refuse r why) :=
  answered_reply s _

theorem Answered.of_ack {s t : State} {r : Request} (h : StepKeeps (s.ack r) t) : Answered s t :=
  ⟨_, h⟩

/-! ### Playback contexts -/

theorem answered_takeGoRequest (s : State) (r : Request) (c : Byte) (ptr : Option Half) :
    Answered s (s.takeGoRequest r c ptr) := by
  unfold State.takeGoRequest
  split
  · exact answered_refuse s r _
  · next p _ =>
    split
    · exact .of_ack ((keeps_takeGo (s.ack r) p ptr).toKeeps.stepKeeps fun h =>
        portSound_takeGo h p ptr)
    · exact answered_refuse s r _
    · exact answered_refuse s r _
    · exact answered_refuse s r _
    · exact answered_refuse s r _

/-- A context in FETCH that is marked pause-pending keeps its request at the port. -/
theorem portSound_pauseFetch {s : State} (h : s.portSound) (p : Ctx) {res : Resolution} {pp : Bool}
    (ha : (s.ctx p).activity = .fetch res pp) :
    (s.modCtx p fun c => { c with activity := .fetch res true }).portSound := by
  refine ⟨h.1, fun hn c => ?_⟩
  have hp := h.2 hn (.ctx p)
  simp only [State.waitsAtPort, ha, show s.store.port = none from hn] at hp
  cases hp

theorem answered_takePauseRequest (s : State) (c : Byte) : Answered s (s.takePauseRequest c) := by
  unfold State.takePauseRequest
  dsimp only
  split
  · exact answered_refuse s _ _
  · next p _ =>
    split
    · exact .of_ack (((keeps_enter _ p _).trans (keeps_holdClaims _ p)).toKeeps.stepKeeps fun h =>
        (mixOnly_holdClaims _ p).portSound (portSound_enter h p _ (by simp [Activity.phase])))
    · next res pp ha =>
      exact .of_ack ((keeps_modCtx _ p _ rfl rfl).toKeeps.stepKeeps fun h =>
        portSound_pauseFetch h p (pp := pp) ha)
    · exact answered_refuse s _ _

theorem answered_takeResumeRequest (s : State) (c : Byte) :
    Answered s (s.takeResumeRequest c) := by
  unfold State.takeResumeRequest
  dsimp only
  split
  · exact answered_refuse s _ _
  · next p _ =>
    split
    · exact .of_ack ((keeps_takeResume _ p _ _).toKeeps.stepKeeps fun h =>
        portSound_takeResume h p _ _)
    · exact answered_refuse s _ _

theorem answered_takeStopRequest (s : State) (c : Byte) : Answered s (s.takeStopRequest c) := by
  unfold State.takeStopRequest
  dsimp only
  split
  · exact answered_refuse s _ _
  · next p _ =>
    exact .of_ack ((keeps_takeStop _ p).toKeeps.stepKeeps fun h => portSound_takeStop h p)

theorem answered_takeReleaseRequest (s : State) (c : Byte) (f : Half) :
    Answered s (s.takeReleaseRequest c f) := by
  have ht : ∀ (r : Request) (p : Ctx), Answered s ((s.ack r).takeRelease p f.toNat) := fun r p =>
    .of_ack ((keeps_takeRelease _ p _).toKeeps.stepKeeps fun h => portSound_takeRelease h p _)
  unfold State.takeReleaseRequest
  dsimp only
  split
  · exact answered_refuse s _ _
  · split
    · exact answered_refuse s _ _
    · split
      · exact answered_refuse s _ _
      · exact ht _ _

theorem answered_takeConfigContext (s : State) (c : Byte) (h : Half) (r : Byte) :
    Answered s (s.takeConfigContext c h r) := by
  unfold State.takeConfigContext
  dsimp only
  split
  · exact answered_refuse s _ _
  · next p _ =>
    refine .of_ack (r := .configContext c h r) (StepKeeps.trans ?_ (stepKeeps_examine _))
    exact .of_same rfl rfl (fun q => .inl (by by_cases hq : q = p <;> simp [hq])) rfl rfl rfl

theorem answered_takeQueryContext (s : State) (c : Byte) : Answered s (s.takeQueryContext c) := by
  unfold State.takeQueryContext
  split
  · exact answered_refuse s _ _
  · exact answered_reply s _

/-! ### Events, cells and channels -/

theorem answered_takePostEvent (s : State) (e : Byte) : Answered s (s.takePostEvent e) := by
  unfold State.takePostEvent
  dsimp only
  split
  · exact answered_refuse s _ _
  · exact .of_ack ((keeps_post _ _).toKeeps.stepKeeps fun h => h)

theorem answered_takeSetCounter (s : State) (c v : Byte) : Answered s (s.takeSetCounter c v) := by
  unfold State.takeSetCounter
  dsimp only
  split
  · exact answered_refuse s _ _
  · next k _ =>
    exact .of_ack (r := .setCounter c v) (.of_same rfl rfl (fun _ => .inl rfl) rfl rfl rfl)

theorem answered_takeSetLevel (s : State) (c l : Byte) (f : Half) (p : Byte) :
    Answered s (s.takeSetLevel c l f p) := by
  unfold State.takeSetLevel
  dsimp only
  split
  · split
    · exact answered_refuse s _ _
    · split
      · exact answered_refuse s _ _
      · exact .of_ack (mixOnly_claimArrives _ _ _ _ _ _).stepKeeps
  · exact answered_refuse s _ _

theorem answered_takeReleaseLevel (s : State) (c : Byte) (f : Half) :
    Answered s (s.takeReleaseLevel c f) := by
  unfold State.takeReleaseLevel
  dsimp only
  split
  · exact answered_refuse s _ _
  · split
    · exact answered_refuse s _ _
    · split
      · exact answered_refuse s _ _
      · exact .of_ack (mixOnly_releaseLink _ _ _).stepKeeps

theorem answered_takeQueryChannel (s : State) (c : Byte) : Answered s (s.takeQueryChannel c) := by
  unfold State.takeQueryChannel
  split
  · exact answered_refuse s _ _
  · exact answered_reply s _

theorem answered_takeConfigChannel (s : State) (c : Byte) (e : ChannelEntry) :
    Answered s (s.takeConfigChannel c e) := by
  unfold State.takeConfigChannel
  dsimp only
  split
  · exact answered_refuse s _ _
  · split
    · exact answered_refuse s _ _
    · exact .of_ack (stepKeeps_configureChannel _ _ _)

theorem answered_takeConfigFault (s : State) (k m : Byte) :
    Answered s (s.takeConfigFault k m) := by
  unfold State.takeConfigFault
  dsimp only
  split
  · exact .of_ack (stepKeeps_setSource _ _ _)
  · exact answered_refuse s _ _

theorem answered_takeClearFault (s : State) (k : Byte) : Answered s (s.takeClearFault k) := by
  unfold State.takeClearFault
  dsimp only
  split
  · exact answered_refuse s _ _
  · split
    · exact answered_refuse s _ _
    · exact .of_ack (stepKeeps_setSource _ _ _)

/-! ### Lines, triggers and matchers -/

theorem answered_takeConfigGroup (s : State) (g : Byte) (e : GroupEntry) :
    Answered s (s.takeConfigGroup g e) := by
  unfold State.takeConfigGroup
  dsimp only
  split
  · next k v _ _ =>
    refine .of_ack (r := .configGroup g e) (StepKeeps.trans ?_ (stepKeeps_examine _))
    have h1 : ∀ t : State, StepKeeps t (t.setGroup k v) := fun t => stepKeeps_trig t _ rfl
    split
    · exact (h1 _).trans (StepKeeps.foldl stepKeeps_testLevel _ _)
    · exact h1 _
  · exact answered_refuse s _ _

theorem answered_takeConfigTrigger (s : State) (l : Byte) (e : TriggerEntry) :
    Answered s (s.takeConfigTrigger l e) := by
  unfold State.takeConfigTrigger
  dsimp only
  split
  · next l cfg _ _ =>
    have h1 : ∀ t : State, StepKeeps t (t.modTrigger l fun x => x.configure cfg) :=
      fun t => stepKeeps_trig t _ rfl
    exact .of_ack (((h1 _).trans (stepKeeps_testLevel _ _)).trans (stepKeeps_examine _))
  · exact answered_refuse s _ _

theorem answered_takeQueryTrigger (s : State) (l : Byte) : Answered s (s.takeQueryTrigger l) := by
  unfold State.takeQueryTrigger
  split
  · exact answered_refuse s _ _
  · exact ⟨_, stepKeeps_trig _ _ rfl⟩

theorem answered_takeConfigMatcher (s : State) (m : Byte) (e : MatcherEntry) :
    Answered s (s.takeConfigMatcher m e) := by
  unfold State.takeConfigMatcher
  dsimp only
  split
  · next k cfg _ _ =>
    have h1 : ∀ t : State, StepKeeps t (t.modMatcher k fun x =>
        { x with config := cfg, progress := 0, gapRemaining := 0 }) := fun t => stepKeeps_trig t _ rfl
    exact .of_ack ((h1 _).trans (stepKeeps_examine _))
  · exact answered_refuse s _ _

theorem answered_takeQueryQueue (s : State) : Answered s s.takeQueryQueue :=
  ⟨_, stepKeeps_trig _ _ rfl⟩

/-! ### Clock, link and the live mask -/

theorem answered_takeSetTick (s : State) (c : Byte) : Answered s (s.takeSetTick c) := by
  unfold State.takeSetTick
  dsimp only
  split
  · exact answered_refuse s _ _
  · exact .of_ack (r := .setTick c) (.of_same rfl rfl (fun _ => .inl rfl) rfl rfl rfl)

theorem answered_takeResetPart (s : State) : Answered s s.takeResetPart :=
  .of_ack (r := .resetPart) (.of_same rfl rfl (fun _ => .inl rfl) rfl rfl rfl)

theorem answered_takeStatus (s : State) : Answered s s.takeStatus :=
  ⟨.status s.statusInfo, .of_same rfl rfl (fun _ => .inl rfl) rfl rfl rfl⟩

theorem answered_takeWriteEnable (s : State) (m k : Half) : Answered s (s.takeWriteEnable m k) := by
  unfold State.takeWriteEnable
  dsimp only
  split
  · exact answered_refuse s _ _
  · exact .of_ack (r := .setWriteEnable m k) (.of_same rfl rfl (fun _ => .inl rfl) rfl rfl rfl)

/-! ### Requests that start an operation of the store -/

/-- A request has become the link store operation: at once acknowledged, or still in service; what it
names lies in the array. -/
def Started (s t : State) : Prop :=
  ∃ op : LinkOp, op.inArray ∧
    ((op.answeredAtOnce = true ∧ ∃ r : Request, t = (s.ack r).startLinkOp op) ∨ t = s.startLinkOp op)

/-- The words that a STORE_PROGRAM's field check lets pass lie in the array (R11). -/
theorem inArray_of_programFieldsOk {word : Half} {data : List Byte}
    (h : programFieldsOk word data = true) : (LinkOp.program word.toNat data).inArray := by
  obtain ⟨-, -, h3, -, h5⟩ := (programFieldsOk_iff word data).1 h
  show 4 * word.toNat + data.length ≤ 65536
  omega

theorem takeStoreRead_cases (s : State) (a : Half) (n : Byte) :
    Answered s (s.takeStoreRead a n) ∨ Started s (s.takeStoreRead a n) := by
  unfold State.takeStoreRead
  dsimp only
  split
  · exact .inl (answered_refuse s _ _)
  · split
    · exact .inl (answered_refuse s _ _)
    · split
      · exact .inl (answered_refuse s _ _)
      · exact .inr ⟨.read a n, trivial, .inr rfl⟩

theorem takeStoreProgram_cases (s : State) (w : Half) (d : List Byte) :
    Answered s (s.takeStoreProgram w d) ∨ Started s (s.takeStoreProgram w d) := by
  unfold State.takeStoreProgram
  dsimp only
  split
  · exact .inl (answered_refuse s _ _)
  · next hf =>
    split
    · exact .inl (answered_refuse s _ _)
    · split
      · exact .inl (answered_refuse s _ _)
      · split
        · exact .inl (answered_refuse s _ _)
        · exact .inr ⟨_, inArray_of_programFieldsOk (by simpa using hf), .inl ⟨rfl, _, rfl⟩⟩

theorem takeEraseFrame_cases (s : State) (f : Byte) :
    Answered s (s.takeEraseFrame f) ∨ Started s (s.takeEraseFrame f) := by
  unfold State.takeEraseFrame
  dsimp only
  split
  · exact .inl (answered_refuse s _ _)
  · split
    · exact .inl (answered_refuse s _ _)
    · split
      · exact .inl (answered_refuse s _ _)
      · split
        · exact .inl (answered_refuse s _ _)
        · exact .inr ⟨.eraseFrame f.toNat, trivial, .inl ⟨rfl, _, rfl⟩⟩

theorem takeEraseAll_cases (s : State) :
    Answered s s.takeEraseAll ∨ Started s s.takeEraseAll := by
  unfold State.takeEraseAll
  split
  · exact .inl (answered_refuse s _ _)
  · split
    · exact .inl (answered_refuse s _ _)
    · exact .inr ⟨.eraseAll, trivial, .inl ⟨rfl, _, rfl⟩⟩

theorem takeReloadCurves_cases (s : State) :
    Answered s s.takeReloadCurves ∨ Started s s.takeReloadCurves := by
  unfold State.takeReloadCurves
  split
  · exact .inl (answered_refuse s _ _)
  · exact .inr ⟨.reloadCurves, trivial, .inr rfl⟩

/-- All that a request's block does: it answers and acts, or the request becomes the link store
operation (R182). -/
theorem takeRequest_cases (s : State) (r : Request) :
    Answered s (s.takeRequest r) ∨ Started s (s.takeRequest r) := by
  cases r with
  | storeRead a n => exact takeStoreRead_cases s a n
  | storeProgram w d => exact takeStoreProgram_cases s w d
  | storeEraseFrame f => exact takeEraseFrame_cases s f
  | storeEraseAll => exact takeEraseAll_cases s
  | setWriteEnable m k => exact .inl (answered_takeWriteEnable s m k)
  | go c => exact .inl (answered_takeGoRequest s _ c _)
  | goWithPointer c p => exact .inl (answered_takeGoRequest s _ c _)
  | pause c => exact .inl (answered_takePauseRequest s c)
  | resume c => exact .inl (answered_takeResumeRequest s c)
  | stop c => exact .inl (answered_takeStopRequest s c)
  | release c f => exact .inl (answered_takeReleaseRequest s c f)
  | configContext c h f => exact .inl (answered_takeConfigContext s c h f)
  | queryContext c => exact .inl (answered_takeQueryContext s c)
  | postEvent e => exact .inl (answered_takePostEvent s e)
  | setCounter c v => exact .inl (answered_takeSetCounter s c v)
  | queryCounters => exact .inl (answered_reply s _)
  | setLevel c l f p => exact .inl (answered_takeSetLevel s c l f p)
  | releaseLevel c f => exact .inl (answered_takeReleaseLevel s c f)
  | queryChannel c => exact .inl (answered_takeQueryChannel s c)
  | reloadCurves => exact takeReloadCurves_cases s
  | configChannel c e => exact .inl (answered_takeConfigChannel s c e)
  | configFault k m => exact .inl (answered_takeConfigFault s k m)
  | clearFault k => exact .inl (answered_takeClearFault s k)
  | configGroup g e => exact .inl (answered_takeConfigGroup s g e)
  | configTrigger l e => exact .inl (answered_takeConfigTrigger s l e)
  | queryTrigger l => exact .inl (answered_takeQueryTrigger s l)
  | configMatcher m e => exact .inl (answered_takeConfigMatcher s m e)
  | queryQueue => exact .inl (answered_takeQueryQueue s)
  | setTick c => exact .inl (answered_takeSetTick s c)
  | resetPart => exact .inl (answered_takeResetPart s)
  | identify => exact .inl (answered_reply s _)
  | status => exact .inl (answered_takeStatus s)

/-! ### The inbound side (R181 to R184) -/

/-- A request that is served with nothing else in service and a reply slot free. -/
theorem stepKeeps_takeRequest {s : State} (hs : s.link.service = none)
    (hr : s.link.replies < Config.replySlots) (r : Request) :
    StepKeeps s ((s.serving r).takeRequest r) := by
  rcases takeRequest_cases (s.serving r) r with ⟨x, h⟩ | ⟨op, ha, ⟨ho, r', h⟩ | h⟩
  · exact (stepKeeps_reply hs hr x).trans h
  · rw [h]
    exact (stepKeeps_reply hs hr (.ack r'.kind)).trans
      (stepKeeps_startLinkOp (s := s.ack r') ha (.inr ho))
  · rw [h]
    exact (stepKeeps_serving hr r).trans (stepKeeps_startLinkOp ha (.inl rfl))

theorem stepKeeps_bringIntoService {s : State} (hs : s.link.service = none)
    (hr : s.link.replies < Config.replySlots) (f : InFrame) :
    StepKeeps s (s.bringIntoService f) := by
  cases f with
  | refused why kind => exact stepKeeps_reply hs hr _
  | request r =>
    unfold State.bringIntoService State.serve
    dsimp only
    split
    · exact stepKeeps_takeRequest hs hr r
    · exact stepKeeps_reply hs hr _

/-- A change of the link beside the outbound queue and the request in service. -/
theorem stepKeeps_link (s : State) (l : Link) (ho : l.outbound = s.link.outbound)
    (hv : l.service = s.link.service) : StepKeeps s { s with link := l } :=
  .of_same rfl rfl (fun _ => .inl rfl) rfl ho hv

theorem stepKeeps_frameArrives (s : State) (f : InFrame) : StepKeeps s (s.frameArrives f) := by
  unfold State.frameArrives
  split
  · exact StepKeeps.refl s
  · split
    · exact stepKeeps_link s _ rfl rfl
    · next hb =>
      split
      · next hs =>
        simp only [Bool.or_eq_true, Bool.and_eq_true, Bool.not_eq_true', decide_eq_true_eq, not_or,
          not_and, Option.isNone_iff_eq_none] at hb hs
        obtain ⟨hs, hp⟩ := hs
        exact stepKeeps_bringIntoService hs (Nat.lt_of_not_le fun hle => hb.1 hle hp) f
      · exact stepKeeps_link s _ rfl rfl

theorem stepKeeps_moveBuffered {s : State} {f : InFrame} (h : s.movable = some f) :
    StepKeeps s (s.moveBuffered f) := by
  unfold State.movable at h
  split at h
  · next hc =>
    simp only [Bool.and_eq_true, Option.isNone_iff_eq_none, decide_eq_true_eq] at hc
    obtain ⟨⟨⟨hs, -⟩, hr⟩, -⟩ := hc
    let u : State := s.modLink fun l => { l with buffered := none }
    exact (stepKeeps_link s u.link rfl rfl).trans
      (stepKeeps_bringIntoService (s := u) hs hr f)
  · cases h

/-! ### The receiver (R177 to R180) -/

theorem stepKeeps_setReceiver (s : State) (v : Receiver) : StepKeeps s (s.setReceiver v) :=
  stepKeeps_link s _ rfl rfl

theorem stepKeeps_truncate (s : State) : StepKeeps s s.truncate :=
  (stepKeeps_setReceiver s _).trans (stepKeeps_frameArrives _ _)

theorem stepKeeps_takeByte (s : State) (b : Byte) : StepKeeps s (s.takeByte b) := by
  unfold State.takeByte
  split
  · split
    · exact stepKeeps_setReceiver s _
    · exact StepKeeps.refl s
  · split
    · exact (stepKeeps_setReceiver s _).trans (stepKeeps_frameArrives _ _)
    · exact stepKeeps_setReceiver s _
  · split <;> exact stepKeeps_setReceiver s _
  · split <;> exact stepKeeps_setReceiver s _
  · exact (stepKeeps_setReceiver s _).trans (stepKeeps_frameArrives _ _)

theorem stepKeeps_takeCharacter (s : State) (b : Byte) (stop : Bool) :
    StepKeeps s (s.takeCharacter b stop) := by
  unfold State.takeCharacter
  split
  · exact StepKeeps.refl s
  · split
    · exact stepKeeps_takeByte s b
    · split
      · exact stepKeeps_truncate s
      · exact StepKeeps.refl s

end Sys2Proof.Machine
end

section
/-! What each command does to the array, the port and the queues (O2, O9, O58): every command keeps them but
the completions of programs and erases and the resets, and those keep them sound. -/

namespace Sys2Proof.Machine

/-! ### Completions at the port -/

/-- The four that every step keeps sound, and the waiting commands. -/
structure SoundKeeps (s t : State) : Prop where
  pending : t.pending = s.pending
  storeSound : s.storeSound → t.storeSound
  portSound : s.portSound → t.portSound
  queueSound : s.queueSound → t.queueSound
  outboundSound : s.outboundSound → t.outboundSound

theorem StepKeeps.soundKeeps {s t : State} (h : StepKeeps s t) : SoundKeeps s t :=
  ⟨h.pending, h.storeSound, h.portSound, h.queueSound, h.outboundSound⟩

/-- The port is set free, the link store operation ends, and the arbiter then grants (R17): nothing is left
that a program would have to lie within, and nothing that holds the service. -/
theorem soundKeeps_ended {s u : State} (hp : u.pending = s.pending)
    (hc : s.storeSound → u.store.cells.wf = true) (ho : u.store.order = s.store.order)
    (hl : u.store.linkOp = none) (hq : u.trig.queue = s.trig.queue)
    (hb : s.outboundSound → u.outboundSound) : SoundKeeps s u.arbitrate := by
  have hk := (keeps_arbitrate u).toKeeps
  have hs : u.orderSound ↔ s.orderSound := by rw [State.orderSound, ho]
  exact {
    pending := hk.pending.trans hp
    storeSound := fun h => ⟨by rw [hk.array]; exact hc h, fun op hop => by
      rw [hk.linkOp, hl] at hop; cases hop⟩
    portSound := fun h => portSound_arbitrate (hs.2 h.1)
    queueSound := fun h => hk.queue (by rw [State.queueSound, hq]; exact h)
    outboundSound := fun h => outboundSound_congr hk.notices hk.replies hk.service hk.linkOp (hb h) }

/-- With no link store operation nothing needs the service held. -/
theorem outboundSound_of_linkOp_none {s t : State} (h : s.outboundSound) (hl : t.store.linkOp = none)
    (hk : t.link = s.link) : t.outboundSound := by
  obtain ⟨h1, h2, -⟩ := h
  exact ⟨by rw [hk]; exact h1, by rw [hk]; exact h2,
    (serviceHeld_iff t).2 fun op hop => by rw [hl] at hop; cases hop⟩

/-- An operation with a STORE_DONE notice that has ended keeps what steps keep, where it leaves the array
canonical. -/
theorem soundKeeps_done {s u : State} (n : Notice) (hp : u.pending = s.pending)
    (hc : s.storeSound → u.store.cells.wf = true) (ho : u.store.order = s.store.order)
    (hl : u.store.linkOp = none) (hq : u.trig.queue = s.trig.queue) (hk : u.link = s.link) :
    SoundKeeps s (u.notify n).arbitrate := by
  have hn := (keeps_notify u n).toKeeps
  have hs := notify_store u n
  refine soundKeeps_ended (hn.pending.trans hp) (by rw [hs]; exact hc) (by rw [hs]; exact ho)
    (by rw [hs]; exact hl) (by rw [(keeps_notify u n).trig]; exact hq) fun h => ?_
  exact (stepKeeps_notify u n).outboundSound (outboundSound_of_linkOp_none h hl hk)

theorem soundKeeps_completeProgram {s : State} {word : Nat} {data : List Byte}
    (hl : s.store.linkOp = some (.program word data)) :
    SoundKeeps s (s.completeProgram word data) := by
  have hw : s.storeSound → (s.store.cells.program (4 * word) data).wf = true :=
    fun h => Memory.wf_program _ _ _ (h.2 _ hl) h.1
  unfold State.completeProgram
  dsimp only
  split
  · exact soundKeeps_done _ rfl hw rfl rfl rfl rfl
  · exact soundKeeps_done _ rfl hw rfl rfl rfl rfl

theorem soundKeeps_completeEraseFrame (s : State) (f : Nat) :
    SoundKeeps s (s.completeEraseFrame f) := by
  have hw : s.storeSound → (s.store.cells.eraseFrame f).wf = true :=
    fun h => Memory.wf_eraseFrame _ _ h.1
  unfold State.completeEraseFrame
  dsimp only
  split
  · exact soundKeeps_done _ rfl hw rfl rfl rfl rfl
  · exact soundKeeps_done _ rfl hw rfl rfl rfl rfl

theorem soundKeeps_completeEraseAll (s : State) : SoundKeeps s s.completeEraseAll :=
  soundKeeps_done _ rfl (fun _ => rfl) rfl rfl rfl rfl

/-- The answer that a STORE_READ or RELOAD_CURVES has waited for finds its reply slot (R9, R102, R183). -/
theorem outboundSound_answer {s u : State} {op : LinkOp} (x : Reply) (h : s.outboundSound)
    (hop : s.store.linkOp = some op) (ha : op.answeredAtOnce = false) (hl : u.store.linkOp = none)
    (hk : u.link = s.link) : (u.reply x).outboundSound := by
  obtain ⟨h1, h2, h3⟩ := h
  rw [(serviceHeld_iff s).1 h3 op hop ha, if_pos rfl] at h2
  exact outboundSound_reply x (by rw [hk]; exact h1) (by rw [hk]; exact h2)
    fun o ho => by rw [hl] at ho; cases ho

/-- An operation that ends with its request's answer keeps what steps keep. -/
theorem stepKeeps_answer {s u : State} {op : LinkOp} (x : Reply) (hop : s.store.linkOp = some op)
    (ha : op.answeredAtOnce = false) (hu : MixOnly s.endLinkOp u) :
    StepKeeps s (u.reply x).arbitrate := by
  have hs := hu.store
  have hk : SoundKeeps s (u.reply x).arbitrate :=
    soundKeeps_ended (u := u.reply x) hu.pending
      (fun h => by show u.store.cells.wf = true; rw [hs]; exact h.1)
      (by show u.store.order = _; rw [hs]; rfl) (by show u.store.linkOp = _; rw [hs]; rfl)
      (by show u.trig.queue = _; rw [hu.trig]; rfl)
      fun h => outboundSound_answer x h hop ha (by rw [hs]; rfl) hu.link
  exact { hk with
    array := (keeps_arbitrate _).array.trans (by show u.store.cells = _; rw [hs]; rfl) }

theorem stepKeeps_completeFetch (s : State) (p : Ctx) (k : ReadKind) (w : Nat) (live : Bool) :
    StepKeeps s (s.completeFetch p k w live) := by
  have hk := keeps_completeFetch s p k w live
  refine hk.toKeeps.stepKeeps fun h => ?_
  unfold State.completeFetch at hk ⊢
  dsimp only at hk ⊢
  rw [← arbitrate_arbitrate]
  exact portSound_arbitrate (hk.order h.1)

/-! ### Resets (R21, R168) -/

/-- A program that a reset interrupts lies within the array as the program itself does (R21). -/
theorem Memory.wf_interruptProgram {m : Memory} (draw word : Nat) {data : List Byte}
    (ha : 4 * word + data.length ≤ Config.storeBytes) (h : m.wf = true) :
    (m.interruptProgram draw word data).wf = true := by
  unfold Memory.interruptProgram
  dsimp only
  generalize Config.interruptedWord draw % (data.length / 4) = k
  have hp : (m.program (4 * word) (data.take (4 * k))).wf = true :=
    Memory.wf_program _ _ _ (by rw [List.length_take]; omega) h
  by_cases hk : 4 * k ≤ data.length
  · exact Memory.wf_interruptWord _ _ _ _
      (by rw [List.length_take, List.length_drop]; omega) hp
  · rw [List.drop_eq_nil_of_le (by omega)]
    exact hp

/-- The array that a reset leaves is canonical (R21). -/
theorem wf_arrayAtReset {s : State} (h : s.storeSound) : s.arrayAtReset.1.wf = true := by
  obtain ⟨hw, ha⟩ := h
  unfold State.arrayAtReset
  split
  · next hl => exact Memory.wf_interruptProgram _ _ (ha _ hl) hw
  · dsimp only
    exact Memory.wf_interruptErase _ _ _ hw
  · dsimp only
    exact Memory.wf_interruptErase _ _ _ hw
  · exact hw

/-- A reset leaves nothing in progress, queued or waiting (R168). -/
theorem soundKeeps_partReset (s : State) (cause : ResetCause) :
    SoundKeeps s (s.partReset cause) where
  pending := rfl
  storeSound h := ⟨wf_arrayAtReset h, fun _ hop => by cases hop⟩
  portSound _ := ⟨List.Perm.refl _, fun _ c => by
    cases c with
    | ctx p =>
      have hi : ((s.partReset cause).ctx p).activity = .idle := by
        simp [State.partReset, State.afterReset, State.ctx, Context.reset]
      simp only [State.waitsAtPort, hi]
    | link => rfl⟩
  queueSound _ := ⟨Nat.zero_le _, List.nodup_nil⟩
  outboundSound _ := ⟨Nat.zero_le _, Nat.zero_le _, trivial⟩

/-! ### Start-up (R171 to R175) -/

theorem stepKeeps_readHeader (s : State) : StepKeeps s s.readHeader :=
  .of_same rfl rfl (fun p => .inl (by
    simp [State.readHeader, State.loadClock, State.loadTrigger, State.loadOutput, State.loadMixer,
      State.loadHomes, State.loadStore, State.ctx])) rfl rfl rfl

theorem stepKeeps_autostart (s : State) : StepKeeps s s.autostart :=
  (stepKeeps_anyOrder s _).trans (StepKeeps.foldl (fun t p =>
    (keeps_takeGo t p none).toKeeps.stepKeeps fun h => portSound_takeGo h p none) _ _)

theorem mixOnly_startCurves (s : State) : MixOnly s s.startCurves := by
  unfold State.startCurves
  exact (mixOnly_fillCurves s _).trans (mixOnly_translateAll _)

/-- A change of the clock alone. -/
theorem stepKeeps_modClk (s : State) (f : Clock → Clock) : StepKeeps s (s.modClk f) :=
  .of_same rfl rfl (fun _ => .inl rfl) rfl rfl rfl

theorem stepKeeps_startRunning (s : State) (valid : Bool) : StepKeeps s (s.startRunning valid) := by
  unfold State.startRunning
  exact (stepKeeps_notify s _).trans (stepKeeps_modClk _ _)

theorem stepKeeps_startOutput (s : State) : StepKeeps s s.startOutput := stepKeeps_out s _

theorem stepKeeps_endStartUp (s : State) (valid : Bool) : StepKeeps s (s.endStartUp valid) := by
  unfold State.endStartUp
  exact ((((mixOnly_startCurves s).stepKeeps.trans (stepKeeps_startRunning _ valid)).trans
    (stepKeeps_startOutput _)).trans (stepKeeps_autostart _)).trans (stepKeeps_examine _)

theorem stepKeeps_completeStartUp (s : State) (valid : Bool) :
    StepKeeps s (s.completeStartUp valid) := by
  unfold State.completeStartUp
  dsimp only
  split
  · next h => exact (stepKeeps_endStartUp s valid).trans (stepKeeps_moveBuffered h)
  · exact stepKeeps_endStartUp s valid

/-! ### Ticks (R48, R96, R149, R160) -/

theorem stepKeeps_modOwed (s : State) (f : TicksOwed → TicksOwed) : StepKeeps s (s.modOwed f) :=
  .of_same rfl rfl (fun _ => .inl rfl) rfl rfl rfl

theorem stepKeeps_endCount (s : State) (p : Ctx) : StepKeeps s (s.endCount p) :=
  (keeps_endCount s p).toKeeps.stepKeeps fun h => portSound_endCount h p

/-- A count that goes on leaves its context where it is, or in the phase that counts. -/
theorem countDown_activity (c : Context) :
    c.countDown.activity = c.activity ∨ c.countDown.phase ≠ .fetch := by
  unfold Context.countDown
  split
  · exact .inr (by simp [Context.phase, Activity.phase])
  · exact .inr (by simp [Context.phase, Activity.phase])
  · exact .inr (by simp [Context.phase, Activity.phase])
  · exact .inl rfl

theorem stepKeeps_countContexts (s : State) : StepKeeps s s.countContexts :=
  .of_same rfl rfl (fun p => by
    have hp : s.countContexts.ctx p =
        if ctxIn p s.owed.taken || (s.ctx p).lastTick then s.ctx p else (s.ctx p).countDown := by
      simp [State.countContexts, State.ctx]
    rw [hp]
    split
    · exact .inl rfl
    · exact countDown_activity _) rfl rfl rfl

theorem stepKeeps_tickPlay (s : State) : StepKeeps s s.tickPlay := by
  unfold State.tickPlay
  exact (((stepKeeps_countContexts s).trans (stepKeeps_anyOrder _ _)).trans
    (StepKeeps.foldl stepKeeps_endCount _ _)).trans (stepKeeps_modOwed _ _)

theorem stepKeeps_tickOne (s : State) (p : Ctx) : StepKeeps s (s.tickOne p) :=
  (stepKeeps_endCount s p).trans (stepKeeps_modOwed _ _)

theorem stepKeeps_takeClaimsGone (s : State) (p : Ctx) : StepKeeps s (s.takeClaimsGone p) :=
  (keeps_takeClaimsGone s p).toKeeps.stepKeeps fun h => portSound_takeClaimsGone h p

theorem stepKeeps_tickMix (s : State) (first : List Ctx) : StepKeeps s (s.tickMix first) := by
  unfold State.tickMix
  exact (((mixOnly_advanceClaims s).stepKeeps.trans (StepKeeps.foldl stepKeeps_takeClaimsGone _ _)).trans
    (stepKeeps_takeAllGone _ _)).trans (stepKeeps_modOwed _ _)

theorem stepKeeps_takeTrigTick (s : State) : StepKeeps s s.takeTrigTick :=
  (stepKeeps_tickTrig s).trans (stepKeeps_modOwed _ _)

/-! ### Transmission (R186, R188) -/

theorem Link.begin_service (l : Link) : l.begin_.service = l.service := by
  unfold Link.begin_; split <;> rfl

/-- A frame that has left leaves fewer replies and notices queued (R186). -/
theorem stepKeeps_frameLeft {s : State} {f : OutFrame} {rest : List OutFrame}
    (h : s.link.outbound = f :: rest) :
    StepKeeps s (s.modLink fun l => Link.begin_ { l with outbound := rest, sending := false }) where
  pending := rfl
  array := rfl
  storeSound := id
  portSound := id
  queueSound := id
  outboundSound := by
    generalize hu : (s.modLink fun l =>
      Link.begin_ { l with outbound := rest, sending := false }) = u
    have ho : u.link.outbound = rest := hu ▸ Link.begin_keeps_outbound _
    have hv : u.link.service = s.link.service := hu ▸ Link.begin_service _
    have hl : u.store.linkOp = s.store.linkOp := hu ▸ rfl
    have hq : ∀ q : OutFrame → Bool, u.link.outbound.countP q ≤ s.link.outbound.countP q := fun q => by
      rw [h, ho]
      exact (List.sublist_cons_self f rest).countP_le
    have hn : u.link.notices ≤ s.link.notices := hq _
    have hr : u.link.replies ≤ s.link.replies := hq _
    rintro ⟨h1, h2, h3⟩
    refine ⟨hn.trans h1, ?_, (serviceHeld_iff u).2 ?_⟩
    · rw [hv]
      exact (Nat.add_le_add_right hr _).trans h2
    · rw [hl, hv]
      exact (serviceHeld_iff s).1 h3

theorem stepKeeps_holdInput (s : State) (high : Bool) : StepKeeps s (s.holdInput high) :=
  stepKeeps_link s _ (Link.begin_keeps_outbound _) (Link.begin_service _)

/-! ### Every command -/

/-- All that a command does to the array, the port and the queues. -/
inductive StepCase (s : State) : Instr → State → Prop
  | keeps {c : Instr} {t : State} (h : StepKeeps s t) : StepCase s c t
  | program {word : Nat} {data : List Byte} (hl : s.store.linkOp = some (.program word data)) :
      StepCase s .storeProgramComplete (s.completeProgram word data)
  | eraseFrame {f : Nat} (hl : s.store.linkOp = some (.eraseFrame f)) :
      StepCase s .eraseFrameComplete (s.completeEraseFrame f)
  | eraseAll (hl : s.store.linkOp = some .eraseAll) :
      StepCase s .eraseAllComplete s.completeEraseAll
  | reset {c : Instr} (cause : ResetCause)
      (hc : c = .powerReset ∨ c = .pinReset ∨ c = .frameTransmitted ∧ s.clk.resetPending = true) :
      StepCase s c (s.partReset cause)

/-- The next state of an event that occurs under a condition. -/
theorem next_of_ite {c : Prop} [Decidable c] {x t : State} {m : String}
    (h : (if c then Host.Outcome.next x else cannotOccur m) = .next t) : x = t := by
  split at h
  · cases h; rfl
  · cases h

theorem stepCase_storeReadComplete {s t : State} (h : exec .storeReadComplete s = .next t) :
    StepCase s .storeReadComplete t := by
  change execStoreReadComplete s = _ at h
  unfold execStoreReadComplete at h
  split at h
  · next hl => cases h; exact .keeps (stepKeeps_answer _ hl rfl (MixOnly.refl _))
  · cases h

theorem stepCase_curveLoadComplete {s t : State} (h : exec .curveLoadComplete s = .next t) :
    StepCase s .curveLoadComplete t := by
  change execCurveLoadComplete s = _ at h
  unfold execCurveLoadComplete at h
  split at h
  · next hl => cases h; exact .keeps (stepKeeps_answer _ hl rfl (mixOnly_fillCurves _ _))
  · cases h

theorem stepCase_storeProgramComplete {s t : State} (h : exec .storeProgramComplete s = .next t) :
    StepCase s .storeProgramComplete t := by
  change execStoreProgramComplete s = _ at h
  unfold execStoreProgramComplete at h
  split at h
  · next hl => cases h; exact .program hl
  · cases h

theorem stepCase_eraseFrameComplete {s t : State} (h : exec .eraseFrameComplete s = .next t) :
    StepCase s .eraseFrameComplete t := by
  change execEraseFrameComplete s = _ at h
  unfold execEraseFrameComplete at h
  split at h
  · next hl => cases h; exact .eraseFrame hl
  · cases h

theorem stepCase_eraseAllComplete {s t : State} (h : exec .eraseAllComplete s = .next t) :
    StepCase s .eraseAllComplete t := by
  change execEraseAllComplete s = _ at h
  unfold execEraseAllComplete at h
  split at h
  · next hl => cases h; exact .eraseAll hl
  · cases h

theorem stepKeeps_linkStepReadComplete {s t : State} (h : exec .linkStepReadComplete s = .next t) :
    StepKeeps s t := by
  change execLinkStepReadComplete s = _ at h
  unfold execLinkStepReadComplete at h
  split at h
  · cases h; exact stepKeeps_completeFetch _ _ _ _ _
  · cases h

theorem stepKeeps_probeReadComplete {s t : State} (h : exec .probeReadComplete s = .next t) :
    StepKeeps s t := by
  change execProbeReadComplete s = _ at h
  unfold execProbeReadComplete at h
  split at h
  · cases h; exact stepKeeps_completeFetch _ _ _ _ _
  · cases h

theorem stepKeeps_recordReadComplete {s t : State} (h : exec .recordReadComplete s = .next t) :
    StepKeeps s t := by
  change execRecordReadComplete s = _ at h
  unfold execRecordReadComplete at h
  split at h
  · cases h; exact stepKeeps_completeFetch _ _ _ _ _
  · cases h

theorem stepKeeps_produceTick (s : State) : StepKeeps s s.produceTick :=
  .of_same rfl rfl (fun _ => .inl rfl) rfl rfl rfl

theorem stepKeeps_post {s t : State} {p : Ctx} {e : EventId} (h : exec (.post p e) s = .next t) :
    StepKeeps s t := by
  rw [← next_of_ite h]
  let u : State := { s with posts := s.posts.erase (p, e) }
  have hu : StepKeeps s u := .of_same rfl rfl (fun _ => .inl rfl) rfl rfl rfl
  exact hu.trans ((keeps_takePost u p e).toKeeps.stepKeeps fun hs => portSound_takePost hs p e)

theorem stepKeeps_phaseReport {s t : State} {p : Ctx} (h : exec (.phaseReport p) s = .next t) :
    StepKeeps s t := by
  change execPhaseReport p s = _ at h
  unfold execPhaseReport at h
  split at h
  · next r _ =>
    cases h
    let u : State := { s with reports := s.reports.erase r }
    have hu : StepKeeps s u := .of_same rfl rfl (fun _ => .inl rfl) rfl rfl rfl
    exact hu.trans (stepKeeps_takeReport u r)
  · cases h

theorem stepKeeps_firstSample {s t : State} {l : Line} {high : Bool}
    (h : exec (.firstSample l high) s = .next t) : StepKeeps s t := by
  rw [← next_of_ite h]
  have h1 : StepKeeps s (s.modLine l fun _ => { high := high, run := 0, sampled := true }) :=
    stepKeeps_trig s _ rfl
  exact h1.trans (stepKeeps_testLevel _ _)

theorem stepCase_frameTransmitted {s t : State} (h : exec .frameTransmitted s = .next t) :
    StepCase s .frameTransmitted t := by
  change execFrameTransmitted s = _ at h
  unfold execFrameTransmitted at h
  split at h
  · next f rest _ ho =>
    cases h
    unfold State.frameSent
    split
    · next hr =>
      exact .reset _ (.inr (.inr ⟨rfl, (Bool.and_eq_true_iff.1 hr).1⟩))
    · exact .keeps (stepKeeps_frameLeft ho)
  · cases h

theorem stepKeeps_bufferedRequestMove {s t : State} (h : exec .bufferedRequestMove s = .next t) :
    StepKeeps s t := by
  change execBufferedRequestMove s = _ at h
  unfold execBufferedRequestMove at h
  split at h
  · next hm => cases h; exact stepKeeps_moveBuffered hm
  · cases h

theorem stepKeeps_resetEnd {s t : State} {b : Bool} (h : exec (.resetEnd b) s = .next t) :
    StepKeeps s t := by
  change execResetEnd b s = _ at h
  unfold execResetEnd at h
  split at h
  · cases h; exact .of_same rfl rfl (fun _ => .inl rfl) rfl rfl rfl
  · cases h

theorem stepKeeps_headerReadComplete {s t : State} (h : exec .headerReadComplete s = .next t) :
    StepKeeps s t := by
  change execHeaderReadComplete s = _ at h
  unfold execHeaderReadComplete at h
  split at h
  · cases h; exact stepKeeps_readHeader s
  · cases h

theorem stepKeeps_startUpCurveLoadComplete {s t : State}
    (h : exec .startUpCurveLoadComplete s = .next t) : StepKeeps s t := by
  change execStartUpCurveLoadComplete s = _ at h
  unfold execStartUpCurveLoadComplete at h
  split at h
  · cases h; exact stepKeeps_completeStartUp s _
  · cases h

theorem stepKeeps_gapExpiry {s t : State} (h : exec .gapExpiry s = .next t) : StepKeeps s t := by
  rw [← next_of_ite h]
  exact stepKeeps_truncate s

/-- A request's command is the arrival of its frame. -/
theorem stepCase_requestCommand {s t : State} (r : Request)
    (h : exec (requestCommand r) s = .next t) : StepCase s (requestCommand r) t := by
  rw [exec_requestCommand] at h
  cases h
  exact .keeps (stepKeeps_frameArrives s _)

/-- Every command with a next state is one of the cases. -/
theorem stepCase_of_exec {c : Instr} {s t : State} (h : exec c s = .next t) : StepCase s c t := by
  cases c with
  | storeRead a n => exact stepCase_requestCommand (.storeRead a n) h
  | storeProgram w d => exact stepCase_requestCommand (.storeProgram w d) h
  | storeEraseFrame f => exact stepCase_requestCommand (.storeEraseFrame f) h
  | storeEraseAll => exact stepCase_requestCommand .storeEraseAll h
  | setWriteEnable m k => exact stepCase_requestCommand (.setWriteEnable m k) h
  | go p => exact stepCase_requestCommand (.go p) h
  | goWithPointer p f => exact stepCase_requestCommand (.goWithPointer p f) h
  | pause p => exact stepCase_requestCommand (.pause p) h
  | resume p => exact stepCase_requestCommand (.resume p) h
  | stop p => exact stepCase_requestCommand (.stop p) h
  | release p f => exact stepCase_requestCommand (.release p f) h
  | configContext p f r => exact stepCase_requestCommand (.configContext p f r) h
  | queryContext p => exact stepCase_requestCommand (.queryContext p) h
  | postEvent e => exact stepCase_requestCommand (.postEvent e) h
  | setCounter k v => exact stepCase_requestCommand (.setCounter k v) h
  | queryCounters => exact stepCase_requestCommand .queryCounters h
  | setLevel ch l f p => exact stepCase_requestCommand (.setLevel ch l f p) h
  | releaseLevel ch f => exact stepCase_requestCommand (.releaseLevel ch f) h
  | queryChannel ch => exact stepCase_requestCommand (.queryChannel ch) h
  | reloadCurves => exact stepCase_requestCommand .reloadCurves h
  | configChannel ch e => exact stepCase_requestCommand (.configChannel ch e) h
  | configFault k m => exact stepCase_requestCommand (.configFault k m) h
  | clearFault k => exact stepCase_requestCommand (.clearFault k) h
  | configGroup g e => exact stepCase_requestCommand (.configGroup g e) h
  | configTrigger l e => exact stepCase_requestCommand (.configTrigger l e) h
  | queryTrigger l => exact stepCase_requestCommand (.queryTrigger l) h
  | configMatcher m e => exact stepCase_requestCommand (.configMatcher m e) h
  | queryQueue => exact stepCase_requestCommand .queryQueue h
  | setTick k => exact stepCase_requestCommand (.setTick k) h
  | resetPart => exact stepCase_requestCommand .resetPart h
  | identify => exact stepCase_requestCommand .identify h
  | status => exact stepCase_requestCommand .status h
  | storeReadComplete => exact stepCase_storeReadComplete h
  | storeProgramComplete => exact stepCase_storeProgramComplete h
  | eraseFrameComplete => exact stepCase_eraseFrameComplete h
  | eraseAllComplete => exact stepCase_eraseAllComplete h
  | curveLoadComplete => exact stepCase_curveLoadComplete h
  | linkStepReadComplete => exact .keeps (stepKeeps_linkStepReadComplete h)
  | probeReadComplete => exact .keeps (stepKeeps_probeReadComplete h)
  | recordReadComplete => exact .keeps (stepKeeps_recordReadComplete h)
  | tick => exact .keeps (next_of_ite h ▸ stepKeeps_produceTick s)
  | tickArrivalPlay => exact .keeps (next_of_ite h ▸ stepKeeps_tickPlay s)
  | tickArrivalMix => exact .keeps (next_of_ite h ▸ stepKeeps_tickMix s _)
  | tickArrivalTrig => exact .keeps (next_of_ite h ▸ stepKeeps_takeTrigTick s)
  | fadeComplete p => exact .keeps (next_of_ite h ▸ stepKeeps_tickOne s p)
  | holdExpiry p => exact .keeps (next_of_ite h ▸ stepKeeps_tickOne s p)
  | waitTimeout p => exact .keeps (next_of_ite h ▸ stepKeeps_tickOne s p)
  | releaseFadeEnd ch who => exact .keeps (next_of_ite h ▸ stepKeeps_tickMix s _)
  | gapLapse m => exact .keeps (next_of_ite h ▸ stepKeeps_takeTrigTick s)
  | recordExpiry src => exact .keeps (next_of_ite h ▸ stepKeeps_takeTrigTick s)
  | post p e => exact .keeps (stepKeeps_post h)
  | phaseReport p => exact .keeps (stepKeeps_phaseReport h)
  | acceptedChange l high => exact .keeps (next_of_ite h ▸ stepKeeps_acceptChange s l high)
  | firstSample l high => exact .keeps (stepKeeps_firstSample h)
  | faultInputChange k a => exact .keeps (next_of_ite h ▸ stepKeeps_setSource s k _)
  | periodStart ch => exact .keeps (next_of_ite h ▸ (mixOnly_startPeriod s ch).stepKeeps)
  | byteArrival b stop => cases h; exact .keeps (stepKeeps_takeCharacter s b stop)
  | gapExpiry => exact .keeps (stepKeeps_gapExpiry h)
  | frameTransmitted => exact stepCase_frameTransmitted h
  | holdChange high => cases h; exact .keeps (stepKeeps_holdInput s high)
  | bufferedRequestMove => exact .keeps (stepKeeps_bufferedRequestMove h)
  | powerReset => cases h; exact .reset _ (.inl rfl)
  | pinReset => cases h; exact .reset _ (.inr (.inl rfl))
  | resetEnd b => exact .keeps (stepKeeps_resetEnd h)
  | headerReadComplete => exact .keeps (stepKeeps_headerReadComplete h)
  | startUpCurveLoadComplete => exact .keeps (stepKeeps_startUpCurveLoadComplete h)
  | lineSample l high => exact .keeps (next_of_ite h ▸ stepKeeps_trig s _ rfl)

theorem StepCase.soundKeeps {s t : State} {c : Instr} (h : StepCase s c t) : SoundKeeps s t := by
  cases h with
  | keeps h => exact h.soundKeeps
  | program hl => exact soundKeeps_completeProgram hl
  | eraseFrame _ => exact soundKeeps_completeEraseFrame s _
  | eraseAll _ => exact soundKeeps_completeEraseAll s
  | reset cause _ => exact soundKeeps_partReset s cause

/-- Settles O2: the waiting commands are no part of any effect, and the commands left in the second clause
are those of the case that keeps the array. -/
theorem whatCommandsLeave : Obligations.WhatCommandsLeave := by
  refine ⟨fun c s t h => (stepCase_of_exec h).soundKeeps.pending,
    fun c s t h h1 h2 h3 h4 h5 h6 a => ?_⟩
  cases stepCase_of_exec h with
  | keeps hk => rw [hk.array]
  | program _ => exact absurd rfl h1
  | eraseFrame _ => exact absurd rfl h2
  | eraseAll _ => exact absurd rfl h3
  | reset cause hc =>
    rcases hc with hc | hc | ⟨hc, hr⟩
    · exact absurd hc h4
    · exact absurd hc h5
    · rw [h6 hc] at hr
      cases hr

/-- Settles O58: an idle step keeps everything, and every other step is a command's. -/
theorem stepKeepsTheQueues : Obligations.StepKeepsTheQueues := by
  intro s t h
  unfold step at h
  split at h
  · cases h
    exact ⟨id, id, id, id⟩
  · obtain ⟨-, h1, h2, h3, h4⟩ := (stepCase_of_exec h).soundKeeps
    exact ⟨h1, h2, h3, h4⟩

end Sys2Proof.Machine
end

section
/-! What programs, erases and interruptions do to the bits of the array (O9), and the resets (O50). -/

namespace Sys2Proof.Machine

/-! ### Bits are only cleared (R2) -/

/-- One array has no one-bit that another has not. -/
def Memory.Clears (m k : Memory) : Prop := ∀ a, m.read a &&& k.read a = k.read a

theorem Memory.Clears.refl (m : Memory) : m.Clears m := fun _ => BitVec.and_self

theorem Memory.Clears.trans {m k n : Memory} (h : m.Clears k) (g : k.Clears n) : m.Clears n :=
  fun a => by rw [← g a, ← BitVec.and_assoc, h a]

theorem Memory.clears_programByte (m : Memory) (a : Nat) (v : Byte) : m.Clears (m.programByte a v) := by
  intro b
  rw [Memory.read_programByte]
  split
  · next h => rw [h, ← BitVec.and_assoc, BitVec.and_self]
  · exact BitVec.and_self

theorem Memory.clears_program (m : Memory) (a : Nat) (vs : List Byte) : m.Clears (m.program a vs) := by
  induction vs generalizing m a with
  | nil => exact Memory.Clears.refl m
  | cons v vs ih => exact (m.clears_programByte a v).trans (ih _ _)

theorem Memory.clears_interruptWord (m : Memory) (draw a : Nat) (vs : List Byte) :
    m.Clears (m.interruptWord draw a vs) := by
  induction vs generalizing m a with
  | nil => exact Memory.Clears.refl m
  | cons v vs ih =>
    unfold Memory.interruptWord
    refine Memory.Clears.trans ?_ (ih _ _)
    split
    · exact Memory.Clears.refl m
    · exact m.clears_programByte a v

theorem Memory.clears_interruptProgram (m : Memory) (draw word : Nat) (data : List Byte) :
    m.Clears (m.interruptProgram draw word data) :=
  (m.clears_program _ _).trans (Memory.clears_interruptWord _ _ _ _)

/-- A reset that interrupts no erase sets no bit (R2, R21). -/
theorem clears_arrayAtReset {s : State} (hf : ∀ f, s.store.linkOp ≠ some (.eraseFrame f))
    (ha : s.store.linkOp ≠ some .eraseAll) : s.store.cells.Clears s.arrayAtReset.1 := by
  unfold State.arrayAtReset
  split
  · exact Memory.clears_interruptProgram _ _ _ _
  · next hl => exact absurd hl (hf _)
  · next hl => exact absurd hl ha
  · exact Memory.Clears.refl _

theorem completeProgram_array (s : State) (word : Nat) (data : List Byte) :
    (s.completeProgram word data).store.cells = s.store.cells.program (4 * word) data := by
  unfold State.completeProgram
  dsimp only
  rw [(keeps_arbitrate _).array, notify_store]
  split <;> rfl

/-- Settles O9: every command that neither erases nor interrupts an erase leaves the array, programs it, or
interrupts a program of it. -/
theorem programmingClearsBits : Obligations.ProgrammingClearsBits := by
  refine ⟨fun m a v => by rw [Memory.read_programByte, if_pos rfl],
    fun m a data b => Memory.read_program m a data b, fun c s t h hf ha => ?_⟩
  show s.store.cells.Clears t.store.cells
  cases stepCase_of_exec h with
  | keeps hk => rw [hk.array]; exact Memory.Clears.refl _
  | program _ => rw [completeProgram_array]; exact Memory.clears_program _ _ _
  | eraseFrame hl => exact absurd hl (hf _)
  | eraseAll hl => exact absurd hl ha
  | reset cause _ => exact clears_arrayAtReset hf ha

/-! ### What an interrupted operation leaves (R21) -/

theorem Memory.read_interruptErase (m : Memory) (draw : Nat) (p : Nat → Bool) (b : Nat) :
    (m.interruptErase draw p).read b
      = if !p b || Config.interruptedKeeps draw b then m.read b else 0xFF :=
  Memory.read_filter m (fun k => !p k || Config.interruptedKeeps draw k) b

/-- A byte of the interrupted word keeps its former value or takes the AND, and the bytes around the word
stay. -/
theorem Memory.read_interruptWord (m : Memory) (draw a : Nat) (vs : List Byte) (b : Nat) :
    (m.interruptWord draw a vs).read b
      = if h : (a ≤ b ∧ b < a + vs.length) ∧ Config.interruptedKeeps draw b = false
        then m.read b &&& vs[b - a]'(by omega) else m.read b := by
  induction vs generalizing m a with
  | nil =>
    rw [dif_neg (by rw [List.length_nil]; omega)]
    rfl
  | cons v vs ih =>
    simp only [Memory.interruptWord, ih, List.length_cons]
    by_cases hb : b = a
    · subst hb
      by_cases hk : Config.interruptedKeeps draw b = true
      · simp [hk]
      · rw [dif_neg (by omega), dif_pos (by simpa using hk), if_neg hk, Memory.read_programByte,
          if_pos rfl]
        simp
    · have hr : ∀ k : Bool, (if k then m else m.programByte a v).read b = m.read b := by
        intro k
        split
        · rfl
        · rw [Memory.read_programByte, if_neg hb]
      rw [hr]
      by_cases h : (a + 1 ≤ b ∧ b < a + 1 + vs.length) ∧ Config.interruptedKeeps draw b = false
      · rw [dif_pos h, dif_pos ⟨by omega, h.2⟩]
        have hi : b - a = b - (a + 1) + 1 := by omega
        simp only [hi, List.getElem_cons_succ]
      · rw [dif_neg h, dif_neg fun h' => h ⟨by omega, h'.2⟩]

/-- An interrupted program has programmed the words before the interrupted one and none behind it (R21). -/
theorem Memory.read_interruptProgram (m : Memory) (draw word : Nat) {data : List Byte}
    (h0 : 0 < data.length) (h4 : data.length % 4 = 0) :
    (∀ b, (b < 4 * word ∨ 4 * word + data.length ≤ b) →
        (m.interruptProgram draw word data).read b = m.read b)
      ∧ ∃ k, k < data.length / 4 ∧ ∀ i, ∀ h : i < data.length,
          let was := m.read (4 * word + i)
          let now := (m.interruptProgram draw word data).read (4 * word + i)
          (i / 4 < k → now = was &&& data[i]) ∧ (i / 4 = k → now = was ∨ now = was &&& data[i])
            ∧ (k < i / 4 → now = was) := by
  have hk : Config.interruptedWord draw % (data.length / 4) < data.length / 4 :=
    Nat.mod_lt _ (by omega)
  unfold Memory.interruptProgram
  dsimp only
  generalize Config.interruptedWord draw % (data.length / 4) = k at hk
  have ht : (data.take (4 * k)).length = 4 * k := by rw [List.length_take]; omega
  have hd : ((data.drop (4 * k)).take 4).length = 4 := by
    rw [List.length_take, List.length_drop]; omega
  refine ⟨fun b hb => ?_, k, hk, fun i hi => ⟨fun h => ?_, fun h => ?_, fun h => ?_⟩⟩
  · rw [Memory.read_interruptWord, dif_neg (by omega), Memory.read_program, dif_neg (by omega)]
  · rw [Memory.read_interruptWord, dif_neg (by omega), Memory.read_program, dif_pos (by omega)]
    simp
  · have hm : (m.program (4 * word) (data.take (4 * k))).read (4 * word + i)
        = m.read (4 * word + i) := by rw [Memory.read_program, dif_neg (by omega)]
    rw [Memory.read_interruptWord, hm]
    split
    · have hi' : 4 * word + i - 4 * (word + k) + 4 * k = i := by omega
      refine .inr ?_
      simp only [List.getElem_take, List.getElem_drop, Nat.add_comm (4 * k), hi']
    · exact .inl rfl
  · rw [Memory.read_interruptWord, dif_neg (by omega), Memory.read_program, dif_neg (by omega)]

/-- With no operation of the link at the port a reset leaves the array (R21). -/
theorem arrayAtReset_of_not_link {s : State} (h : s.store.port ≠ some .link) :
    s.arrayAtReset = (s.store.cells, s.free) := by
  unfold State.arrayAtReset
  split
  · next hp _ => exact absurd hp h
  · next hp _ => exact absurd hp h
  · next hp _ => exact absurd hp h
  · rfl

/-- The array that a reset leaves is one that R21 allows. -/
theorem leavesArray_arrayAtReset (s : State) : s.leavesArray s.arrayAtReset.1 := by
  unfold State.leavesArray
  by_cases hp : s.store.port = some .link
  · rw [if_pos hp]
    unfold State.arrayAtReset
    rw [hp]
    cases s.store.linkOp with
    | none => exact fun _ => rfl
    | some op =>
      cases op with
      | read _ _ => exact fun _ => rfl
      | reloadCurves => exact fun _ => rfl
      | program word data => exact fun h0 h4 => Memory.read_interruptProgram _ _ _ h0 h4
      | eraseAll =>
        intro b
        dsimp only
        rw [Memory.read_interruptErase]
        split
        · exact .inl rfl
        · exact .inr rfl
      | eraseFrame f =>
        intro b
        dsimp only
        have hb : (b / 512 == f) = true ↔ 512 * f ≤ b ∧ b < 512 * f + 512 := by
          rw [beq_iff_eq]
          omega
        rw [Memory.read_interruptErase]
        split_ifs with h1 h2 h2
        · exact .inl rfl
        · exact .inr rfl
        · rfl
        · simp [Bool.eq_false_iff.2 fun h => h1 (hb.1 h)] at h2
  · rw [if_neg hp, arrayAtReset_of_not_link hp]
    exact fun _ => rfl

/-! ### The resets (R168 to R170) -/

/-- A reset takes the whole part to its reset values but for what no reset touches (R168). -/
theorem partReset_eq (s : State) (cause : ResetCause) :
    s.partReset cause = s.inResetOf cause s.arrayAtReset.1 s.arrayAtReset.2 := rfl

theorem pinCause_eq (c : Clock) :
    c.pinCause = if c.stage = .inReset .power then .power else .pin := by
  unfold Clock.pinCause
  split
  · next h => rw [if_pos h]
  · next h => rw [if_neg h]

/-- The reset of a pending RESET_PART falls when its ACK has left (R170). -/
theorem exec_frameTransmitted_of_pending {s : State} {rest : List OutFrame}
    (hp : s.clk.resetPending = true) (hs : s.link.sending = true)
    (ho : s.link.outbound = .reply (.ack 0x1C) :: rest) :
    exec .frameTransmitted s = .next (s.partReset .request) := by
  show execFrameTransmitted s = _
  unfold execFrameTransmitted
  rw [hs, ho]
  have ha : (s.clk.resetPending && (OutFrame.reply (.ack 0x1C)).acksReset) = true := by
    rw [hp]
    rfl
  exact congrArg _ (if_pos ha)

/-- Settles O50. -/
theorem resetsFall : Obligations.ResetsFall := by
  refine ⟨fun s h => exec_of_accepts h .resetPart,
    fun s => ⟨_, _, rfl, leavesArray_arrayAtReset s⟩, fun s => ⟨_, s.arrayAtReset.2, ?_, leavesArray_arrayAtReset s⟩,
    fun s rest hp hs ho => ⟨_, _, exec_frameTransmitted_of_pending hp hs ho,
      leavesArray_arrayAtReset s⟩⟩
  rw [← pinCause_eq]
  rfl

end Sys2Proof.Machine
end

section
/-! The end of a reset and the header's items (R169, R171, R172, R197). -/

namespace Sys2Proof.Machine

/-- The header is valid exactly with its identity bytes and format version (R3). -/
theorem headerValid_iff (m : Memory) :
    m.headerValid = true ↔ m.read 0 = 0xC5 ∧ m.read 1 = 0x24 ∧ m.read 2 = 1 := by
  simp only [Memory.headerValid, Bool.and_eq_true, beq_iff_eq, and_assoc]

theorem tickCode_val (m : Memory) :
    m.tickCode.val = if (m.read 3).toNat ≤ 3 then (m.read 3).toNat else 3 := by
  unfold Memory.tickCode byteFin
  split_ifs with h1 h2 h2
  · rfl
  · omega
  · omega
  · rfl

/-- A fault source's mode code other than that of FOLLOW falls back to LATCH (R126, R197). -/
theorem faultMode_eq (m : Memory) (k : Fin 2) :
    m.faultMode k = if m.read (7 + k.val) = 1 then .follow else .latch := by
  have h1 : m.read (7 + k.val) = 1 ↔ (m.read (7 + k.val)).toNat = 1 := by
    rw [← BitVec.toNat_inj]
    rfl
  unfold Memory.faultMode faultModeOf
  simp only [h1]
  split
  · next h => rw [h]; rfl
  · next h => rw [h]; rfl
  · next h => rw [if_neg h]; rfl

theorem group_eq (m : Memory) (g : Fin 3) :
    m.group g = if (m.read (22 + 3 * g.val)).toNat ≤ 15 then
      { enable := (m.read (20 + 3 * g.val)).getLsbD 0, report := (m.read (21 + 3 * g.val)).getLsbD 0,
        filter := (m.read (22 + 3 * g.val)).toNat } else .default := by
  have h1 : 20 + 3 * g.val + 1 = 21 + 3 * g.val := by omega
  have h2 : 20 + 3 * g.val + 2 = 22 + 3 * g.val := by omega
  simp only [Memory.group, GroupEntry.at, GroupEntry.config, h1, h2]
  split <;> rfl

theorem autostart_eq (m : Memory) (p : Ctx) :
    m.autostart p = halfOf (m.read (12 + 2 * p.val)) (m.read (13 + 2 * p.val)) := by
  have h1 : 12 + 2 * p.val + 1 = 13 + 2 * p.val := by omega
  rw [Memory.autostart, h1]

/-- What start-up gives a channel: its entry where the header is valid and the entry passes, and the
defaults otherwise (R172, R197). -/
theorem startConfig_eq (s : State) (ch : Chan) :
    s.startConfig ch = (if s.store.cells.headerValid then
      ChannelEntry.config (ChannelEntry.at s.store.cells.read (32 + 8 * ch.val)) ch
      else none).getD ChannelConfig.default := by
  unfold State.startConfig Memory.channel
  split <;> rfl

/-- A channel's secondary mark follows its partner's mode; one that is newly marked loses its claims and
stands at level 0 (R107, R108). -/
theorem load_eq (c : MixChannel) (cfg : ChannelConfig) (second : Bool) :
    c.load cfg second =
      (let new := { c with arbitration := cfg.arbitration, curve := cfg.curve, secondary := second }
       if second && !c.secondary then { new with claims := .empty, level := 0 } else new) := by
  unfold MixChannel.load MixChannel.becomeSecondary
  cases second with
  | false => rfl
  | true =>
    cases h : c.secondary with
    | false => simp
    | true => simp

/-! ### Each block after the header's read -/

theorem readHeader_store (s : State) :
    s.readHeader.store = { s.store with
      mask := if s.store.cells.headerValid then halfOf (s.store.cells.read 4) (s.store.cells.read 5)
              else 0xFFFF,
      lockActive := s.store.cells.headerValid && s.store.cells.read 6 != 0xFF } := rfl

theorem readHeader_clk (s : State) :
    s.readHeader.clk = { s.clk with
      tickCode := if s.store.cells.headerValid then s.store.cells.tickCode else 3,
      stage := .loadingCurves s.store.cells.headerValid } := rfl

theorem loadHomes_ctx (s : State) (p : Ctx) :
    s.loadHomes.ctx p = { s.ctx p with
      home := if s.store.cells.headerValid then s.store.cells.autostart p else 0xFFFF } := by
  simp [State.loadHomes, State.ctx]

theorem loadMixer_mixCh (s : State) (ch : Chan) :
    s.loadMixer.mixCh ch = (s.mixCh ch).load (s.startConfig ch)
      (isOdd ch && (s.startConfig (evenPartner ch)).mode == .pair) := by
  simp [State.loadMixer, State.mixCh]

theorem loadOutput_outCh (s : State) (ch : Chan) :
    s.loadOutput.outCh ch = { s.outCh ch with loaded := some (s.startConfig ch) } := by
  simp [State.loadOutput, State.outCh]

theorem loadOutput_source (s : State) (k : Fin 2) :
    s.loadOutput.out.sources[k] = { s.out.sources[k] with
      mode := if s.store.cells.headerValid then s.store.cells.faultMode k else .latch } := by
  simp [State.loadOutput]

theorem loadTrigger_group (s : State) (g : Fin 3) :
    s.loadTrigger.trig.groups[g]
      = if s.store.cells.headerValid then s.store.cells.group g else .default := by
  simp [State.loadTrigger]

theorem loadTrigger_trigger (s : State) (l : Line) :
    s.loadTrigger.trigger l = { s.trigger l with
      config := if s.store.cells.headerValid then s.store.cells.triggerEntry l else .default } := by
  simp [State.loadTrigger, State.trigger]

theorem loadTrigger_matcher (s : State) (k : Fin 2) :
    s.loadTrigger.trig.matchers[k] = { s.trig.matchers[k] with
      config := if s.store.cells.headerValid then s.store.cells.matcherEntry k else .default } := by
  simp [State.loadTrigger]

theorem readHeader_ctx (s : State) (p : Ctx) :
    s.readHeader.ctx p = { s.ctx p with
      home := if s.store.cells.headerValid then s.store.cells.autostart p else 0xFFFF } :=
  loadHomes_ctx s.loadStore p

theorem readHeader_mixCh (s : State) (ch : Chan) :
    s.readHeader.mixCh ch = (s.mixCh ch).load (s.startConfig ch)
      (isOdd ch && (s.startConfig (evenPartner ch)).mode == .pair) :=
  loadMixer_mixCh s.loadStore.loadHomes ch

theorem readHeader_outCh (s : State) (ch : Chan) :
    s.readHeader.outCh ch = { s.outCh ch with loaded := some (s.startConfig ch) } :=
  loadOutput_outCh s.loadStore.loadHomes.loadMixer ch

theorem readHeader_source (s : State) (k : Fin 2) :
    s.readHeader.out.sources[k] = { s.out.sources[k] with
      mode := if s.store.cells.headerValid then s.store.cells.faultMode k else .latch } :=
  loadOutput_source s.loadStore.loadHomes.loadMixer k

theorem readHeader_group (s : State) (g : Fin 3) :
    s.readHeader.trig.groups[g]
      = if s.store.cells.headerValid then s.store.cells.group g else .default :=
  loadTrigger_group s.loadStore.loadHomes.loadMixer.loadOutput g

theorem readHeader_trigger (s : State) (l : Line) :
    s.readHeader.trigger l = { s.trigger l with
      config := if s.store.cells.headerValid then s.store.cells.triggerEntry l else .default } :=
  loadTrigger_trigger s.loadStore.loadHomes.loadMixer.loadOutput l

theorem readHeader_matcher (s : State) (k : Fin 2) :
    s.readHeader.trig.matchers[k] = { s.trig.matchers[k] with
      config := if s.store.cells.headerValid then s.store.cells.matcherEntry k else .default } :=
  loadTrigger_matcher s.loadStore.loadHomes.loadMixer.loadOutput k

/-- An item of a valid header, or its default. -/
theorem ite_getD {α : Type} (c : Bool) (x : Option α) (d : α) :
    (if c then x.getD d else d) = (if c then x else none).getD d := by
  cases c <;> rfl

theorem exec_resetEnd {s : State} {cause : ResetCause} (baud : Bool)
    (h : s.clk.stage = .inReset cause) :
    exec (.resetEnd baud) s = .next (s.endReset cause baud) := by
  show execResetEnd baud s = _
  simp only [execResetEnd, h]

theorem exec_headerReadComplete {s : State} (h : s.clk.stage = .readingHeader) :
    exec .headerReadComplete s = .next s.readHeader := by
  show execHeaderReadComplete s = _
  simp only [execHeaderReadComplete, h]

/-- Settles O51: one lemma a block says what it takes from the header. -/
theorem headerItemsAreTaken : Obligations.HeaderItemsAreTaken := by
  refine ⟨⟨rfl, rfl, rfl, rfl, rfl⟩, fun s cause baud h => exec_resetEnd baud h, fun s h => ?_⟩
  refine ⟨s.readHeader, exec_headerReadComplete h, headerValid_iff _, rfl, ?_, readHeader_store s,
    fun k => ?_, fun p => ?_, fun g => ?_, fun ch => ?_, fun ch => ?_, fun l => ?_, fun k => ?_,
    rfl, rfl, rfl, rfl, rfl, rfl⟩
  · rw [readHeader_clk]
    dsimp only
    cases s.store.cells.headerValid with
    | false => rfl
    | true => simpa using tickCode_val s.store.cells
  · rw [readHeader_source, faultMode_eq]
    cases s.store.cells.headerValid <;> simp
  · rw [readHeader_ctx, autostart_eq]
  · rw [readHeader_group, group_eq]
    cases s.store.cells.headerValid <;> simp
  · rw [readHeader_outCh, startConfig_eq]
  · rw [readHeader_mixCh, load_eq, startConfig_eq, startConfig_eq]
  · rw [readHeader_trigger, Memory.triggerEntry, ite_getD]
  · rw [readHeader_matcher, Memory.matcherEntry, ite_getD]

end Sys2Proof.Machine
end

section
/-! The operations of the link at the store port complete (R10, R12 to R14, R17). -/

namespace Sys2Proof.Machine

/-! ### What a notice reaches -/

/-- A notice changes the link alone. -/
theorem notify_eq_link (s : State) (n : Notice) :
    s.notify n = { s with link := (s.notify n).link } := by
  unfold State.notify
  split <;> rfl

/-- What a notice does to the link depends on the link and the tick stamp alone. -/
theorem notify_link_congr {s t : State} (hl : t.link = s.link) (hc : t.clk = s.clk) (n : Notice) :
    (t.notify n).link = (s.notify n).link := by
  simp only [State.notify, State.modLink, hl, hc, apply_ite State.link]

/-- What a reply does to the link depends on the link alone. -/
theorem reply_link_congr {s t : State} (hl : t.link = s.link) (x : Reply) :
    (t.reply x).link = (s.reply x).link := by
  simp only [reply_eq, hl]

/-! ### The end of a link store operation -/

/-- A step whose completed operation has ended: all that has changed stands in the link and the store, and
the port is free. -/
structure EndsLinkOp (s u : State) : Prop where
  port : u.store.port = none
  linkOp : u.store.linkOp = none
  order : u.store.order = s.store.order

theorem endsLinkOp_endLinkOp (s : State) : EndsLinkOp s s.endLinkOp := ⟨rfl, rfl, rfl⟩

theorem EndsLinkOp.of_store {s u v : State} (h : EndsLinkOp s u) (hp : v.store.port = u.store.port)
    (hl : v.store.linkOp = u.store.linkOp) (ho : v.store.order = u.store.order) : EndsLinkOp s v :=
  ⟨hp.trans h.port, hl.trans h.linkOp, ho.trans h.order⟩

theorem EndsLinkOp.notify {s u : State} (h : EndsLinkOp s u) (n : Notice) : EndsLinkOp s (u.notify n) :=
  h.of_store (by rw [notify_store]) (by rw [notify_store]) (by rw [notify_store])

/-- The port passes at once, and not to the link, which asks for nothing more (R17). -/
theorem EndsLinkOp.passes {s u : State} (h : EndsLinkOp s u) :
    u.arbitrate.store.linkOp = none ∧ u.arbitrate.store.port ≠ some .link
      ∧ s.portPasses u.arbitrate := by
  refine ⟨(keeps_arbitrate u).linkOp.trans h.linkOp, ?_, portPasses_arbitrate h.port h.order⟩
  rcases arbitrate_eq u with he | ⟨-, c, hc, he⟩
  · rw [he, h.port]
    exact Option.some_ne_none _ |>.symm
  · rw [he]
    show u.portRequest c ≠ some .link
    cases c with
    | ctx p =>
      unfold State.portRequest
      dsimp only
      split <;> simp
    | link => simp [State.portRequest, h.linkOp]

/-- The arbiter leaves everything but the store. -/
theorem arbitrate_outside {s u : State} (h : { u with link := s.link, store := s.store } = s) :
    { u.arbitrate with link := s.link, store := s.store } = s := by
  rw [arbitrate_eq_modStore]
  exact h

theorem arbitrate_link (s : State) : s.arbitrate.link = s.link := by
  rw [arbitrate_eq_modStore]
  rfl

theorem arbitrate_cells (s : State) : s.arbitrate.store.cells = s.store.cells :=
  (keeps_arbitrate s).array

theorem notify_outside {s u : State} (h : { u with link := s.link, store := s.store } = s)
    (n : Notice) : { u.notify n with link := s.link, store := s.store } = s := by
  rw [notify_eq_link]
  exact h

/-! ### The completions -/

theorem exec_storeReadComplete {s : State} {address : Half} {length : Byte}
    (hp : s.store.port = some .link) (hl : s.store.linkOp = some (.read address length)) :
    exec .storeReadComplete s = .next (s.completeRead address length) := by
  show execStoreReadComplete s = _
  unfold execStoreReadComplete
  rw [hp, hl]

theorem exec_storeProgramComplete {s : State} {word : Nat} {data : List Byte}
    (hp : s.store.port = some .link) (hl : s.store.linkOp = some (.program word data)) :
    exec .storeProgramComplete s = .next (s.completeProgram word data) := by
  show execStoreProgramComplete s = _
  unfold execStoreProgramComplete
  rw [hp, hl]

theorem exec_eraseFrameComplete {s : State} {f : Nat}
    (hp : s.store.port = some .link) (hl : s.store.linkOp = some (.eraseFrame f)) :
    exec .eraseFrameComplete s = .next (s.completeEraseFrame f) := by
  show execEraseFrameComplete s = _
  unfold execEraseFrameComplete
  rw [hp, hl]

theorem exec_eraseAllComplete {s : State}
    (hp : s.store.port = some .link) (hl : s.store.linkOp = some .eraseAll) :
    exec .eraseAllComplete s = .next s.completeEraseAll := by
  show execEraseAllComplete s = _
  unfold execEraseAllComplete
  rw [hp, hl]

theorem exec_curveLoadComplete {s : State}
    (hp : s.store.port = some .link) (hl : s.store.linkOp = some .reloadCurves) :
    exec .curveLoadComplete s = .next s.completeReload := by
  show execCurveLoadComplete s = _
  unfold execCurveLoadComplete
  rw [hp, hl]

/-- A change of the array: its new content, with the lock test made again where frame 0 is concerned (R7). -/
def State.rewritten (s : State) (m : Memory) (test : Bool) : State :=
  if test then (s.endLinkOp.setCells m).testLock else s.endLinkOp.setCells m

theorem rewritten_cells (s : State) (m : Memory) (test : Bool) :
    (s.rewritten m test).store.cells = m := by
  cases test <;> rfl

theorem rewritten_lockActive (s : State) (m : Memory) (test : Bool) :
    (s.rewritten m test).store.lockActive = if test then m.lockTest else s.store.lockActive := by
  cases test <;> rfl

/-- The end of a program or an erase: the array has its new content, a notice tells it, and the port
passes. -/
theorem rewritten_completes (s : State) (m : Memory) (test : Bool) (n : Notice) :
    let t := ((s.rewritten m test).notify n).arbitrate
    t.store.cells = m ∧ t.store.lockActive = (if test then m.lockTest else s.store.lockActive)
      ∧ t.link = (s.notify n).link ∧ t.store.mask = s.store.mask ∧ t.store.linkOp = none
      ∧ t.store.port ≠ some .link ∧ s.portPasses t
      ∧ { t with link := s.link, store := s.store } = s := by
  have hends : EndsLinkOp s ((s.rewritten m test).notify n) := by
    refine EndsLinkOp.notify ((endsLinkOp_endLinkOp s).of_store ?_ ?_ ?_) n <;> cases test <;> rfl
  obtain ⟨hop, hport, hpass⟩ := hends.passes
  have hcells : ((s.rewritten m test).notify n).arbitrate.store.cells = m := by
    rw [arbitrate_cells, notify_store, rewritten_cells]
  have hlock : ((s.rewritten m test).notify n).arbitrate.store.lockActive
      = if test then m.lockTest else s.store.lockActive := by
    rw [(keeps_arbitrate _).lock, notify_store, rewritten_lockActive]
  refine ⟨hcells, hlock, ?_, ?_, hop, hport, hpass, ?_⟩
  · rw [arbitrate_link]
    exact notify_link_congr (by cases test <;> rfl) (by cases test <;> rfl) n
  · rw [(keeps_arbitrate _).mask, notify_store]
    cases test <;> rfl
  · exact arbitrate_outside (notify_outside (by cases test <;> rfl) n)

theorem completeProgram_eq (s : State) (word : Nat) (data : List Byte) :
    s.completeProgram word data
      = ((s.rewritten (s.store.cells.program (4 * word) data) (decide (word < 128))).notify
          (.storeDone .program word
            ((s.store.cells.program (4 * word) data).firstDifference (4 * word) data))).arbitrate := by
  unfold State.completeProgram State.rewritten Config.headerWords
  by_cases h : word < 128
  · simp only [h, decide_true, if_true]
    rfl
  · simp only [h, decide_false, if_false]
    rfl

theorem completeEraseFrame_eq (s : State) (f : Nat) :
    s.completeEraseFrame f
      = ((s.rewritten (s.store.cells.eraseFrame f) (decide (f = 0))).notify
          (.storeDone .eraseFrame f none)).arbitrate := by
  unfold State.completeEraseFrame State.rewritten
  by_cases h : f = 0
  · simp only [h, decide_true, if_true]
  · simp only [h, decide_false, if_false]
    rfl

/-- An array whose frame 0 is erased is not locked (R6). -/
theorem Memory.lockTest_eraseFrame_zero (m : Memory) : (m.eraseFrame 0).lockTest = false := by
  simp [Memory.lockTest, Memory.headerValid, Memory.read_eraseFrame, Memory.erased]

/-- The first difference, if there is one, is the lowest; and with none every byte is as supplied (R12). -/
theorem Memory.firstDifference_spec (m : Memory) (a : Nat) (data : List Byte) :
    match m.firstDifference a data with
    | none => ∀ i, ∀ h : i < data.length, m.read (a + i) = data[i]
    | some b => ∃ i, ∃ h : i < data.length, b = a + i ∧ m.read b ≠ data[i]
        ∧ ∀ j, ∀ hj : j < i, m.read (a + j) = data[j] := by
  induction data generalizing a with
  | nil => exact fun i h => absurd h (Nat.not_lt_zero i)
  | cons v vs ih =>
    unfold Memory.firstDifference
    by_cases hv : m.read a = v
    · rw [if_pos hv]
      specialize ih (a + 1)
      have hcons : ∀ i, ∀ h : i < vs.length, m.read (a + 1 + i) = vs[i] →
          m.read (a + (i + 1)) = (v :: vs)[i + 1]'(Nat.succ_lt_succ h) := fun i h hr => by
        rw [List.getElem_cons_succ, ← hr]
        congr 1
        omega
      split at ih
      · rintro (_ | i) h
        · exact hv
        · exact hcons i (Nat.lt_of_succ_lt_succ h) (ih i (Nat.lt_of_succ_lt_succ h))
      · obtain ⟨i, h, hb, hne, hbefore⟩ := ih
        refine ⟨i + 1, Nat.succ_lt_succ h, by omega, hne, ?_⟩
        rintro (_ | j) hj
        · exact hv
        · exact hcons j (by omega) (hbefore j (by omega))
    · rw [if_neg hv]
      exact ⟨0, Nat.succ_pos _, rfl, hv, fun j hj => absurd hj (Nat.not_lt_zero j)⟩

theorem Memory.readBytes_length (m : Memory) (a n : Nat) : (m.readBytes a n).length = n := by
  simp [Memory.readBytes]

theorem Memory.readBytes_getElem? (m : Memory) (a : Nat) {n i : Nat} (h : i < n) :
    (m.readBytes a n)[i]? = some (m.read (a + i)) := by
  simp [Memory.readBytes, h]

/-- A completed read answers with the bytes of the array (R10). -/
theorem completeRead_spec (s : State) (address : Half) (length : Byte) :
    let t := s.completeRead address length
    t.link = (s.reply (.storeData address (s.store.cells.readBytes address.toNat length.toNat))).link
      ∧ t.store.linkOp = none ∧ t.store.port ≠ some .link ∧ s.portPasses t
      ∧ { t with link := s.link, store := s.store } = s ∧ t.store.cells = s.store.cells := by
  unfold State.completeRead
  generalize Reply.storeData address _ = x
  have hends : EndsLinkOp s (s.endLinkOp.reply x) :=
    (endsLinkOp_endLinkOp s).of_store rfl rfl rfl
  obtain ⟨hop, hport, hpass⟩ := hends.passes
  exact ⟨arbitrate_link _, hop, hport, hpass, arbitrate_outside rfl, arbitrate_cells _⟩

/-- Settles O10. -/
theorem storeOperationsComplete : Obligations.StoreOperationsComplete := by
  refine ⟨fun s address length hp hl => ?_, fun s word data hp hl => ?_, fun s hp =>
    ⟨fun f hl => ?_, fun hl => ?_⟩⟩
  · obtain ⟨hlink, hop, hport, hpass, hrest, hcells⟩ := completeRead_spec s address length
    exact ⟨_, _, exec_storeReadComplete hp hl, Memory.readBytes_length _ _ _,
      fun i hi => Memory.readBytes_getElem? _ _ hi, hlink, hop, hport, hpass, hrest,
      fun a => by rw [hcells]⟩
  · obtain ⟨hcells, hlock, hrest⟩ := rewritten_completes s (s.store.cells.program (4 * word) data)
      (decide (word < 128)) (.storeDone .program word
        ((s.store.cells.program (4 * word) data).firstDifference (4 * word) data))
    refine ⟨_, (s.store.cells.program (4 * word) data).firstDifference (4 * word) data,
      (exec_storeProgramComplete hp hl).trans (by rw [completeProgram_eq]), ?_, ?_, ?_, hrest⟩
    · intro b
      rw [hcells, Memory.read_program]
    · rw [hcells]
      exact Memory.firstDifference_spec _ _ _
    · rw [hlock, hcells]
      simp only [decide_eq_true_eq]
  · obtain ⟨hcells, hlock, hrest⟩ := rewritten_completes s (s.store.cells.eraseFrame f)
      (decide (f = 0)) (.storeDone .eraseFrame f none)
    refine ⟨_, (exec_eraseFrameComplete hp hl).trans (by rw [completeEraseFrame_eq]), ?_, ?_, hrest⟩
    · intro b
      rw [hcells, Memory.read_eraseFrame]
      exact if_congr (by omega) rfl rfl
    · rw [hlock]
      by_cases hf : f = 0
      · subst hf
        exact Memory.lockTest_eraseFrame_zero _
      · simp [hf]
  · obtain ⟨hcells, hlock, hrest⟩ := rewritten_completes s [] true (.storeDone .eraseAll 0 none)
    refine ⟨_, exec_eraseAllComplete hp hl, ?_, ?_, hrest⟩
    · intro b
      exact congrArg (Memory.read · b) hcells
    · exact hlock

end Sys2Proof.Machine
end

section
/-! The curve load fills the slots, and the channels of the curves are translated again (O11). -/

namespace Sys2Proof.Machine

/-! ### Duties handed over many channels -/

/-- A channel in the mixer with its output record. -/
abbrev ChannelView := MixChannel × OutChannel

/-- A channel's two records. -/
def State.viewOf (s : State) (ch : Chan) : ChannelView := (s.mixCh ch, s.outCh ch)

/-- A channel whose level has been translated through its curve and handed where it differs (R100). -/
def ChannelView.translated (duty : Fin 4 → Byte → Half) (v : ChannelView) : ChannelView :=
  if v.1.secondary ∨ duty v.1.curve v.1.level = v.1.dutyLast then v
  else ({ v.1 with dutyLast := duty v.1.curve v.1.level },
    { v.2 with buffered := { v.2.buffered with duty := duty v.1.curve v.1.level } })

theorem viewOf_handDuty (s : State) (ch c : Chan) (d : Half) :
    (s.handDuty ch d).viewOf c
      = if c = ch then ({ s.mixCh c with dutyLast := d },
          { s.outCh c with buffered := { (s.outCh c).buffered with duty := d } })
        else s.viewOf c := by
  by_cases h : c = ch
  · subst h
    simp [State.viewOf, State.handDuty]
  · simp [State.viewOf, State.handDuty, h]

/-- A translation reaches its own channel only. -/
theorem viewOf_translate (s : State) (ch c : Chan) :
    (s.translate ch).viewOf c
      = if c = ch then (s.viewOf c).translated s.mix.duty else s.viewOf c := by
  unfold State.translate ChannelView.translated
  dsimp only
  by_cases hc : c = ch
  · subst hc
    rw [if_pos rfl]
    by_cases hs : (s.mixCh c).secondary = true
    · rw [if_pos hs, if_pos (.inl hs)]
    · rw [if_neg hs]
      by_cases hd : s.mix.duty (s.mixCh c).curve (s.mixCh c).level = (s.mixCh c).dutyLast
      · rw [if_pos hd, if_pos (.inr hd)]
      · rw [if_neg hd, if_neg fun h => h.elim hs hd, viewOf_handDuty, if_pos rfl]
        rfl
  · rw [if_neg hc]
    split
    · rfl
    · split
      · rfl
      · rw [viewOf_handDuty, if_neg hc]

theorem curves_translate (s : State) (ch : Chan) : (s.translate ch).mix.curves = s.mix.curves :=
  (keeps_translate s ch).curves

/-- Duties depend on the curve RAM alone (R100). -/
theorem duty_congr {m k : Mixer} (h : k.curves = m.curves) : k.duty = m.duty := by
  funext curve level
  unfold Mixer.duty
  rw [h]

/-- Translating the channels of a list translates each of them once. -/
theorem viewOf_foldl_translate {l : List Chan} (hl : l.Nodup) (s : State) (c : Chan) :
    (l.foldl State.translate s).viewOf c
      = if c ∈ l then (s.viewOf c).translated s.mix.duty else s.viewOf c := by
  induction l generalizing s with
  | nil => rw [if_neg List.not_mem_nil]; rfl
  | cons a l ih =>
    obtain ⟨ha, hl⟩ := List.nodup_cons.1 hl
    rw [List.foldl_cons, ih hl, viewOf_translate, duty_congr (curves_translate s a)]
    by_cases hc : c = a
    · subst hc
      rw [if_neg ha, if_pos rfl, if_pos List.mem_cons_self]
    · rw [if_neg hc]
      exact if_congr (by simp [hc]) rfl rfl

/-! ### What a translation shows of a channel -/

/-- The duty last handed is the level's duty, and the output stage holds it where it is new. -/
theorem ChannelView.translated_duty {duty : Fin 4 → Byte → Half} {v : ChannelView}
    (h : v.1.secondary = false) :
    (v.translated duty).1.dutyLast = duty v.1.curve v.1.level
      ∧ (v.translated duty).2.buffered.duty
        = if (v.translated duty).1.dutyLast = v.1.dutyLast then v.2.buffered.duty
          else (v.translated duty).1.dutyLast := by
  unfold ChannelView.translated
  by_cases hd : duty v.1.curve v.1.level = v.1.dutyLast
  · rw [if_pos (.inr hd)]
    exact ⟨hd.symm, (if_pos rfl).symm⟩
  · rw [if_neg (by simp [h, hd])]
    exact ⟨rfl, (if_neg hd).symm⟩

/-- Nothing but the duties changes. -/
theorem ChannelView.translated_same (duty : Fin 4 → Byte → Half) (v : ChannelView) :
    (v.translated duty).1.claims = v.1.claims ∧ (v.translated duty).1.level = v.1.level
      ∧ v.2.sameButDuty (v.translated duty).2 := by
  unfold ChannelView.translated
  split
  · exact ⟨rfl, rfl, rfl⟩
  · exact ⟨rfl, rfl, rfl⟩

/-! ### The slots (R101) -/

theorem halfOf_toNat (lo hi : Byte) : (halfOf lo hi).toNat = 256 * hi.toNat + lo.toNat := by
  unfold halfOf
  rw [BitVec.toNat_append, ← Nat.shiftLeft_add_eq_or_of_lt lo.isLt, Nat.shiftLeft_eq]
  omega

theorem halfOf_eq_ones (lo hi : Byte) : halfOf lo hi = 0xFFFF ↔ lo = 0xFF ∧ hi = 0xFF := by
  have hl := lo.isLt
  have hh := hi.isLt
  rw [← BitVec.toNat_inj, ← BitVec.toNat_inj, ← BitVec.toNat_inj, halfOf_toNat]
  show _ = 65535 ↔ _ = 255 ∧ _ = 255
  omega

/-- A frame's table is all ones exactly where the frame is erased. -/
theorem frameTable_all (m : Memory) (f : Nat) :
    ((frameTable m f).toList.all fun d => d == 0xFFFF) = true
      ↔ ∀ i, i < 512 → m.read (512 * f + i) = 0xFF := by
  have hn : ((frameTable m f).toList.all fun d => d == 0xFFFF) = true
      ↔ ∀ n, ∀ _ : n < 256, m.read (512 * f + 2 * n) = 0xFF ∧ m.read (512 * f + 2 * n + 1) = 0xFF := by
    simp only [List.all_eq_true, beq_iff_eq, List.forall_mem_iff_getElem, Vector.length_toList,
      Vector.getElem_toList, frameTable, Vector.getElem_ofFn, halfOf_eq_ones]
  rw [hn]
  refine ⟨fun h i hi => ?_, fun h n hn => ⟨h (2 * n) (by omega), h (2 * n + 1) (by omega)⟩⟩
  obtain ⟨heven, hodd⟩ := h (i / 2) (by omega)
  rcases Nat.mod_two_eq_zero_or_one i with hi2 | hi2
  · rwa [show 2 * (i / 2) = i by omega] at heven
  · rwa [Nat.add_assoc, show 2 * (i / 2) + 1 = i by omega] at hodd

/-- A slot from a header's curve frame number (R101). -/
theorem slotFrom_eq (m : Memory) (b : Byte)
    [Decidable (∀ i, i < 512 → m.read (512 * b.toNat + i) = 0xFF)] :
    slotFrom m b = if b.toNat = 0 ∨ 128 ≤ b.toNat then none
      else if ∀ i, i < 512 → m.read (512 * b.toNat + i) = 0xFF then none
      else some (frameTable m b.toNat) := by
  have hz : b = 0 ↔ b.toNat = 0 := by
    rw [← BitVec.toNat_inj]
    rfl
  have hall := frameTable_all m b.toNat
  simp only [slotFrom, hz, hall]

theorem loadedSlots_getElem (m : Memory) (k : Fin 3) :
    (loadedSlots m)[k]
      = if m.headerValid = false then none else slotFrom m (m.read (9 + k.val)) := by
  unfold loadedSlots
  cases m.headerValid with
  | false =>
    match k with
    | 0 => rfl
    | 1 => rfl
    | 2 => rfl
  | true =>
    match k with
    | 0 => rfl
    | 1 => rfl
    | 2 => rfl

/-! ### The load -/

theorem curves_fillCurves (s : State) (slots : Vector CurveSlot 3) :
    (s.fillCurves slots).mix.curves = slots :=
  foldl_keeps (P := fun t => t.mix.curves = slots)
    (fun t c ht => (curves_translate t c).trans ht) _ rfl

/-- The channels of a curve number above 0 are translated, and the others stay. -/
theorem viewOf_fillCurves (s : State) (slots : Vector CurveSlot 3) (ch : Chan) :
    (s.fillCurves slots).viewOf ch
      = if (s.mixCh ch).curve ≠ 0 then (s.viewOf ch).translated (s.fillCurves slots).mix.duty
        else s.viewOf ch := by
  have hmem : ch ∈ (allChan.filter fun ch => (s.mixCh ch).curve != 0) ↔ (s.mixCh ch).curve ≠ 0 := by
    simp [allChan]
  rw [duty_congr (m := { s.mix with curves := slots }) (curves_fillCurves s slots)]
  unfold State.fillCurves
  rw [viewOf_foldl_translate (List.Nodup.filter _ (show allChan.Nodup from List.nodup_finRange 16))]
  exact if_congr hmem rfl rfl

/-- Settles O11. -/
theorem curveLoadFillsTheSlots : Obligations.CurveLoadFillsTheSlots := by
  intro s hp hl
  let slots := loadedSlots s.store.cells
  let u := s.endLinkOp.fillCurves slots
  have hmix : MixOnly s.endLinkOp u := mixOnly_fillCurves _ _
  have hends : EndsLinkOp s (u.ack .reloadCurves) := by
    refine (endsLinkOp_endLinkOp s).of_store ?_ ?_ ?_ <;> exact congrArg _ hmix.store
  obtain ⟨hop, hport, hpass⟩ := hends.passes
  let t := (u.ack .reloadCurves).arbitrate
  have ht : t = (u.ack .reloadCurves).arbitrate := rfl
  have hview : ∀ ch, t.viewOf ch
      = if (s.mixCh ch).curve ≠ 0 then (s.viewOf ch).translated t.mix.duty else s.viewOf ch := by
    intro ch
    rw [ht, arbitrate_eq_modStore]
    exact viewOf_fillCurves s.endLinkOp slots ch
  have hcurves : t.mix.curves = slots := by
    rw [ht, arbitrate_eq_modStore]
    exact curves_fillCurves _ _
  refine ⟨t, exec_curveLoadComplete hp hl, fun k => ?_, fun ch h0 => ?_, fun ch h0 hs => ?_,
    fun ch => ?_, ?_, hop, hport, hpass, fun a => ?_, ?_⟩
  · rw [hcurves]
    show (loadedSlots s.store.cells)[k] = _
    rw [loadedSlots_getElem, slotFrom_eq]
    dsimp only
    by_cases hv : s.store.cells.headerValid = false
    · rw [if_pos hv, if_pos (.inl hv)]
    · rw [if_neg hv]
      exact if_congr (by simp [hv]) rfl rfl
  · have h := hview ch
    rw [if_neg (not_not.2 h0)] at h
    exact Prod.ext_iff.1 h
  · have h := hview ch
    rw [if_pos h0] at h
    have hd := ChannelView.translated_duty (duty := t.mix.duty) (v := s.viewOf ch) hs
    rw [← h] at hd
    exact hd
  · have h := hview ch
    have hd := ChannelView.translated_same t.mix.duty (s.viewOf ch)
    split at h
    · rw [← h] at hd
      exact hd
    · obtain ⟨hm, ho⟩ := Prod.ext_iff.1 h
      have hm : t.mixCh ch = s.mixCh ch := hm
      have ho : t.outCh ch = s.outCh ch := ho
      rw [hm, ho]
      exact ⟨rfl, rfl, rfl⟩
  · rw [ht, arbitrate_link]
    exact reply_link_congr hmix.link _
  · rw [ht, arbitrate_cells]
    show u.store.cells.read a = _
    rw [hmix.store]
    rfl
  · rw [ht, arbitrate_eq_modStore]
    show { u with link := s.link, store := s.store, mix := s.mix, out := s.out } = s
    rw [hmix.eq]
    rfl

end Sys2Proof.Machine
end

section
/-! What a step of one context leaves as it is, and the claim sets that the mixer's operations leave. -/

namespace Sys2Proof.Machine

/-! ### Sets of contexts -/

theorem ctxIn_or_ctxBit (set : CtxSet) (p q : Ctx) :
    ctxIn q (set ||| ctxBit p) = (ctxIn q set || decide (q = p)) := by
  revert set p q
  decide

theorem ctxIn_ctxOut (set : CtxSet) (p q : Ctx) :
    ctxIn q (ctxOut set p) = (ctxIn q set && decide (q ≠ p)) := by
  revert set p q
  decide

/-! ### Steps of one context -/

/-- A step of context p: what the contexts' and the mixer's activity leaves, and in the other contexts and
their claims everything. -/
structure CtxStep (p : Ctx) (s t : State) : Prop extends PlayKeeps s t where
  samePosts : t.posts = s.posts
  ctx : ∀ q, q ≠ p → t.ctx q = s.ctx q
  claims : ∀ ch c, c ≠ .ctx p → (t.mixCh ch).claims.get c = (s.mixCh ch).claims.get c
  held : ∀ q, q ≠ p → ctxIn q t.mix.held = ctxIn q s.mix.held

theorem CtxStep.refl (p : Ctx) (s : State) : CtxStep p s s :=
  { PlayKeeps.refl s with
    samePosts := rfl
    ctx := fun _ _ => rfl
    claims := fun _ _ _ => rfl
    held := fun _ _ => rfl }

theorem CtxStep.trans {p : Ctx} {s t u : State} (h : CtxStep p s t) (k : CtxStep p t u) :
    CtxStep p s u :=
  { h.toPlayKeeps.trans k.toPlayKeeps with
    samePosts := k.samePosts.trans h.samePosts
    ctx := fun q hq => (k.ctx q hq).trans (h.ctx q hq)
    claims := fun ch c hc => (k.claims ch c hc).trans (h.claims ch c hc)
    held := fun q hq => (k.held q hq).trans (h.held q hq) }

theorem CtxStep.sameBesides {p : Ctx} {s t : State} (h : CtxStep p s t) : s.sameBesides t p := by
  have hout : ∀ ch, (s.outCh ch).sameButDuty (t.outCh ch) := fun ch => by
    obtain ⟨d, hd⟩ := h.outCh ch
    rw [State.outCh, State.outCh] at hd
    simp only [OutChannel.sameButDuty, State.outCh, hd]
  refine ⟨⟨h.mask, by rw [h.clk], by rw [h.trig], fun q => ⟨h.home q, h.report q⟩,
    fun ch => ⟨h.arbitration ch, h.curve ch, h.secondary ch⟩, fun ch => ?_,
    fun k => by rw [h.sources], h.triggers, fun k => (h.matchers k).1⟩, h.clk, h.owed, h.trig, h.samePosts,
    fun a => by rw [h.array], h.lock, h.linkOp, h.sources, hout, h.curves, h.receiver, h.buffered,
    h.hold, h.rate, h.dropped, h.ctx, h.claims, h.held⟩
  rw [hout ch]
  exact ⟨rfl, rfl, rfl, rfl, rfl⟩

/-- An operation that reaches neither the posts nor the mixer's claims and holds, and no other context. -/
theorem CtxStep.of_keeps {p : Ctx} {s t : State} (h : PlayKeeps s t) (hp : t.posts = s.posts)
    (hc : ∀ q, q ≠ p → t.ctx q = s.ctx q) (hm : t.mix = s.mix) : CtxStep p s t :=
  { h with
    samePosts := hp
    ctx := hc
    claims := fun ch c _ => by rw [State.mixCh, State.mixCh, hm]
    held := fun q _ => by rw [hm] }

theorem ctxStep_notify (p : Ctx) (s : State) (n : Notice) : CtxStep p s (s.notify n) :=
  .of_keeps (keeps_notify s n) (by rw [notify_eq_link]) (fun q _ => notify_ctx s n q)
    (by rw [notify_eq_link])

theorem ctxStep_arbitrate (p : Ctx) (s : State) : CtxStep p s s.arbitrate := by
  refine .of_keeps (keeps_arbitrate s) ?_ (fun q _ => ?_) ?_ <;> rw [arbitrate_eq_modStore] <;> rfl

theorem ctxStep_enter (p : Ctx) (s : State) (a : Activity) : CtxStep p s (s.enter p a) :=
  .of_keeps (keeps_enter s p a) rfl (fun q hq => by simp [State.enter, hq]) rfl

theorem ctxStep_setPort (p : Ctx) (s : State) (port : Option PortOp) :
    CtxStep p s (s.modStore fun st => { st with port := port }) :=
  .of_keeps { PlayKeeps.refl s with } rfl (fun _ _ => rfl) rfl

theorem ctxStep_holdClaims (p : Ctx) (s : State) : CtxStep p s (s.holdClaims p) :=
  { keeps_holdClaims s p with
    samePosts := rfl
    ctx := fun _ _ => rfl
    claims := fun _ _ _ => rfl
    held := fun q hq => by
      show ctxIn q (s.mix.held ||| ctxBit p) = _
      rw [ctxIn_or_ctxBit, decide_eq_false hq, Bool.or_false] }

theorem ctxStep_endHold (p : Ctx) (s : State) : CtxStep p s (s.endHold p) :=
  { keeps_endHold s p with
    samePosts := rfl
    ctx := fun _ _ => rfl
    claims := fun _ _ _ => rfl
    held := fun q hq => by
      show ctxIn q (ctxOut s.mix.held p) = _
      rw [ctxIn_ctxOut, decide_eq_true hq, Bool.and_true] }

/-! ### What entering a phase changes -/

/-- A notice depends on the link and the tick stamp alone, and changes the link alone. -/
theorem notify_of_same {s u : State} (hl : u.link = s.link) (hc : u.clk = s.clk) (n : Notice) :
    u.notify n = { u with link := (s.notify n).link } := by
  rw [notify_eq_link, notify_link_congr hl hc]

/-- All that entering IDLE changes (R63). -/
theorem enterIdle_eq (s : State) (p : Ctx) (way : Way) :
    s.enterIdle p way = { s with
      contexts := s.contexts.set p { s.ctx p with activity := .idle, current := none }
      reports := s.reports ++ [⟨p, .idle⟩]
      link := (if (s.ctx p).report then s.notify (.contextIdle p way (s.ctx p).current) else s).link } := by
  unfold State.enterIdle
  dsimp only
  split
  · exact notify_of_same (s := s) (by rfl) (by rfl) _
  · rfl

/-- All that entering FAULTED changes (R65). -/
theorem enterFaulted_eq (s : State) (p : Ctx) (reason : FaultReason) (word : Nat) :
    s.enterFaulted p reason word = { s with
      contexts := s.contexts.set p { s.ctx p with activity := .faulted reason word }
      reports := s.reports ++ [⟨p, .faulted⟩]
      mix := { s.mix with held := s.mix.held ||| ctxBit p }
      link := (s.notify (.contextFault p reason word (s.ctx p).current)).link } := by
  unfold State.enterFaulted
  exact notify_of_same (s := s) (by rfl) (by rfl) _

section
variable (s : State) (p : Ctx) (way : Way)

theorem enterIdle_store : (s.enterIdle p way).store = s.store := by rw [enterIdle_eq]
theorem enterIdle_mix : (s.enterIdle p way).mix = s.mix := by rw [enterIdle_eq]
theorem enterIdle_out : (s.enterIdle p way).out = s.out := by rw [enterIdle_eq]
theorem enterIdle_cells : (s.enterIdle p way).cells = s.cells := by rw [enterIdle_eq]
theorem enterIdle_reports : (s.enterIdle p way).reports = s.reports ++ [⟨p, .idle⟩] := by
  rw [enterIdle_eq]
theorem enterIdle_link : (s.enterIdle p way).link
    = (if (s.ctx p).report then s.notify (.contextIdle p way (s.ctx p).current) else s).link := by
  rw [enterIdle_eq]
theorem enterIdle_ctx (q : Ctx) : (s.enterIdle p way).ctx q
    = if q = p then { s.ctx p with activity := .idle, current := none } else s.ctx q := by
  rw [enterIdle_eq]
  exact State.modCtx_ctx s p q fun _ => _

end

section
variable (s : State) (p : Ctx) (reason : FaultReason) (word : Nat)

theorem enterFaulted_store : (s.enterFaulted p reason word).store = s.store := by rw [enterFaulted_eq]
theorem enterFaulted_out : (s.enterFaulted p reason word).out = s.out := by rw [enterFaulted_eq]
theorem enterFaulted_cells : (s.enterFaulted p reason word).cells = s.cells := by rw [enterFaulted_eq]
theorem enterFaulted_mix : (s.enterFaulted p reason word).mix
    = { s.mix with held := s.mix.held ||| ctxBit p } := by rw [enterFaulted_eq]
theorem enterFaulted_reports : (s.enterFaulted p reason word).reports
    = s.reports ++ [⟨p, .faulted⟩] := by rw [enterFaulted_eq]
theorem enterFaulted_link : (s.enterFaulted p reason word).link
    = (s.notify (.contextFault p reason word (s.ctx p).current)).link := by rw [enterFaulted_eq]
theorem enterFaulted_ctx (q : Ctx) : (s.enterFaulted p reason word).ctx q
    = if q = p then { s.ctx p with activity := .faulted reason word } else s.ctx q := by
  rw [enterFaulted_eq]
  exact State.modCtx_ctx s p q fun _ => _

end

theorem ctxStep_enterIdle (p : Ctx) (s : State) (way : Way) : CtxStep p s (s.enterIdle p way) :=
  .of_keeps (keeps_enterIdle s p way) (by rw [enterIdle_eq])
    (fun q hq => (enterIdle_ctx s p way q).trans (if_neg hq)) (enterIdle_mix s p way)

theorem ctxStep_enterFaulted (p : Ctx) (s : State) (reason : FaultReason) (word : Nat) :
    CtxStep p s (s.enterFaulted p reason word) :=
  ((ctxStep_enter p s _).trans (ctxStep_holdClaims p _)).trans (ctxStep_notify p _ _)

/-! ### Claim sets -/

@[simp] theorem ClaimSet.get_update (cs : ClaimSet) (f : Claimant → Claim → Option Claim)
    (who : Claimant) : (cs.update f).get who = (cs.get who).bind (f who) := by
  cases who with
  | ctx p => simp [ClaimSet.get, ClaimSet.update]
  | link => rfl

/-- Neither a channel's claims nor its stamp counter differ. -/
def SameClaims (s t : State) : Prop :=
  ∀ ch, (t.mixCh ch).claims = (s.mixCh ch).claims
    ∧ (t.mixCh ch).stampCounter = (s.mixCh ch).stampCounter

theorem SameClaims.refl (s : State) : SameClaims s s := fun _ => ⟨rfl, rfl⟩

theorem SameClaims.trans {s t u : State} (h : SameClaims s t) (k : SameClaims t u) : SameClaims s u :=
  fun ch => ⟨(k ch).1.trans (h ch).1, (k ch).2.trans (h ch).2⟩

/-- A change of one channel that touches neither its claims nor its stamp counter. -/
theorem sameClaims_modMix (s : State) (ch : Chan) {f : MixChannel → MixChannel}
    (h : ∀ c, (f c).claims = c.claims ∧ (f c).stampCounter = c.stampCounter) :
    SameClaims s (s.modMix ch f) := by
  intro c
  rw [State.modMix_mixCh]
  split
  · next hc => rw [hc]; exact h _
  · exact ⟨rfl, rfl⟩

theorem sameClaims_translate (s : State) (ch : Chan) : SameClaims s (s.translate ch) := by
  unfold State.translate
  dsimp only
  split
  · exact .refl s
  · split
    · exact .refl s
    · exact sameClaims_modMix s ch (f := fun c => { c with dutyLast := _ }) fun _ => ⟨rfl, rfl⟩

/-- Settling changes levels and duties, not claims (R97). -/
theorem sameClaims_settle (s : State) (ch : Chan) : SameClaims s (s.settle ch) := by
  unfold State.settle
  split
  · exact .refl s
  · exact (sameClaims_modMix s ch (f := fun c => { c with level := c.claims.level c.arbitration })
      fun _ => ⟨rfl, rfl⟩).trans (sameClaims_translate _ ch)

theorem sameClaims_settleChanged (s : State) (b : Vector MixChannel 16) (ch : Chan) :
    SameClaims s (s.settleChanged b ch) := by
  unfold State.settleChanged
  split
  · exact .refl s
  · exact sameClaims_settle s ch

/-- The claims of every channel changed, before any level is settled. -/
def State.claimsChanged (s : State) (f : Chan → Claimant → Claim → Option Claim) : State :=
  { s with mix := { s.mix with channels := Vector.ofFn fun ch =>
    { s.mix.channels[ch] with claims := (s.mix.channels[ch]).claims.update (f ch) } } }

theorem updateClaims_eq (s : State) (f : Chan → Claimant → Claim → Option Claim) :
    s.updateClaims f
      = allChan.foldl (fun t ch => t.settleChanged s.mix.channels ch) (s.claimsChanged f) := rfl

theorem claimsChanged_mixCh (s : State) (f : Chan → Claimant → Claim → Option Claim) (ch : Chan) :
    (s.claimsChanged f).mixCh ch
      = { s.mixCh ch with claims := (s.mixCh ch).claims.update (f ch) } := by
  simp [State.claimsChanged, State.mixCh]

/-- A change of all claim sets changes each claim as asked, and no stamp counter. -/
theorem updateClaims_mixCh (s : State) (f : Chan → Claimant → Claim → Option Claim) (ch : Chan) :
    ((s.updateClaims f).mixCh ch).claims = (s.mixCh ch).claims.update (f ch)
      ∧ ((s.updateClaims f).mixCh ch).stampCounter = (s.mixCh ch).stampCounter := by
  have h : SameClaims (s.claimsChanged f) (s.updateClaims f) := by
    rw [updateClaims_eq]
    exact foldl_keeps (P := SameClaims (s.claimsChanged f))
      (fun t c ht => ht.trans (sameClaims_settleChanged t s.mix.channels c)) _ (.refl _)
  have hc := h ch
  rwa [claimsChanged_mixCh] at hc

theorem held_translate (s : State) (ch : Chan) : (s.translate ch).mix.held = s.mix.held := by
  unfold State.translate
  dsimp only
  split
  · rfl
  · split
    · rfl
    · rfl

theorem held_settle (s : State) (ch : Chan) : (s.settle ch).mix.held = s.mix.held := by
  unfold State.settle
  split
  · rfl
  · exact held_translate _ ch

/-- A change of claims is none of the held set (R94). -/
theorem held_updateClaims (s : State) (f : Chan → Claimant → Claim → Option Claim) :
    (s.updateClaims f).mix.held = s.mix.held := by
  rw [updateClaims_eq]
  refine foldl_keeps (P := fun t => t.mix.held = s.mix.held) (fun t c ht => ?_) _ rfl
  unfold State.settleChanged
  split
  · exact ht
  · exact (held_settle t c).trans ht

theorem mixCh_endHold (s : State) (p : Ctx) (ch : Chan) : (s.endHold p).mixCh ch = s.mixCh ch := rfl

theorem held_endHold (s : State) (p : Ctx) : (s.endHold p).mix.held = ctxOut s.mix.held p := rfl

theorem held_removeClaims (s : State) (p : Ctx) :
    (s.removeClaims p).mix.held = ctxOut s.mix.held p := by
  rw [State.removeClaims, held_endHold, held_updateClaims]

/-- The removal of a context's claims takes them out and leaves the others (R93). -/
theorem removeClaims_get (s : State) (p : Ctx) (ch : Chan) (who : Claimant) :
    ((s.removeClaims p).mixCh ch).claims.get who
      = if who = .ctx p then none else (s.mixCh ch).claims.get who := by
  rw [State.removeClaims, mixCh_endHold, (updateClaims_mixCh s _ ch).1, ClaimSet.get_update]
  split
  · exact Option.bind_fun_none _
  · exact Option.bind_fun_some _

theorem ctxStep_removeClaims (p : Ctx) (s : State) : CtxStep p s (s.removeClaims p) := by
  have hm := mixOnly_removeClaims s p
  refine { keeps_removeClaims s p with
    samePosts := hm.posts
    ctx := fun q _ => hm.ctx q
    claims := fun ch c hc => (removeClaims_get s p ch c).trans (if_neg hc)
    held := fun q hq => ?_ }
  rw [held_removeClaims, ctxIn_ctxOut, decide_eq_true hq, Bool.and_true]

end Sys2Proof.Machine
end

section
/-! STOP (R60). -/

namespace Sys2Proof.Machine

/-- What stands at the port when a context has withdrawn (R19, R44). -/
def withdrawn (p : Ctx) (port : Option PortOp) : Option PortOp :=
  match port with
  | some (.fetch q kind w true) => some (.fetch q kind w (decide (q ≠ p)))
  | _ => port

theorem withdrawn_own (p : Ctx) (kind : ReadKind) (w : Nat) :
    withdrawn p (some (.fetch p kind w true)) = some (.fetch p kind w false) := by
  simp [withdrawn]

theorem withdrawn_of_ne {p : Ctx} {port : Option PortOp}
    (h : ∀ kind w, port ≠ some (.fetch p kind w true)) : withdrawn p port = port := by
  unfold withdrawn
  split
  · next q kind w =>
    have hq : q ≠ p := fun hq => h kind w (by rw [hq])
    rw [decide_eq_true hq]
  · rfl

theorem withdrawFetch_eq (s : State) (p : Ctx) :
    s.withdrawFetch p = s.modStore fun st => { st with port := withdrawn p st.port } := by
  by_cases h : ∃ kind w, s.store.port = some (.fetch p kind w true)
  · obtain ⟨kind, w, hp⟩ := h
    simp [State.withdrawFetch, State.modStore, hp, withdrawn_own]
  · have hne : ∀ kind w, s.store.port ≠ some (.fetch p kind w true) :=
      fun kind w hp => h ⟨kind, w, hp⟩
    simp only [State.modStore, withdrawn_of_ne hne]
    unfold State.withdrawFetch
    split
    · next q kind w hp => exact if_neg fun hq => hne kind w (by rw [hp, hq])
    · rfl

theorem exec_stop {s : State} {n : Byte} {p : Ctx} (h : s.accepts) (hn : n.toNat = p.val) :
    exec (.stop n) s = .next ((s.ack (.stop n)).takeStop p) := by
  refine (exec_of_accepts h (.stop n)).trans ?_
  show Host.Outcome.next ((s.serving (.stop n)).takeStopRequest n) = _
  unfold State.takeStopRequest
  rw [byteFin_eq_some hn]
  rfl

theorem takeStop_of_idle {s : State} {p : Ctx} (h : (s.ctx p).activity = .idle) :
    s.takeStop p = s.removeClaims p := by
  unfold State.takeStop
  rw [h]

/-- A STOP in another phase: the fetch request withdrawn, the context enters IDLE (R60). -/
theorem takeStop_of_active {s : State} {p : Ctx} (h : (s.ctx p).activity ≠ .idle) :
    ∃ port, s.takeStop p
        = ((s.removeClaims p).modStore fun st => { st with port := port }).enterIdle p .stopped
      ∧ ((∃ res pp, (s.ctx p).activity = .fetch res pp) ∧ port = withdrawn p s.store.port
        ∨ (∀ res pp, (s.ctx p).activity ≠ .fetch res pp) ∧ port = s.store.port) := by
  have hs : (s.removeClaims p).store = s.store := (mixOnly_removeClaims s p).store
  unfold State.takeStop
  dsimp only
  rw [← hs]
  generalize s.removeClaims p = s1
  split
  · next hi => exact absurd hi h
  · next res pp hf =>
    refine ⟨_, ?_, .inl ⟨⟨res, pp, hf⟩, rfl⟩⟩
    rw [withdrawFetch_eq]
    rfl
  · next hf => exact ⟨_, rfl, .inr ⟨hf, rfl⟩⟩

/-- The part that STOP leaves has the other contexts as they were (R60). -/
theorem ctxStep_takeStop (p : Ctx) (s : State) : CtxStep p s (s.takeStop p) := by
  by_cases h : (s.ctx p).activity = .idle
  · rw [takeStop_of_idle h]
    exact ctxStep_removeClaims p s
  · obtain ⟨port, ht, -⟩ := takeStop_of_active h
    rw [ht]
    exact ((ctxStep_removeClaims p s).trans (ctxStep_setPort p _ port)).trans
      (ctxStep_enterIdle p _ _)

/-- What a reply changes is none of what a context's step is said to leave. -/
theorem sameBesides_of_ack {s t : State} {r : Request} {p : Ctx} (h : (s.ack r).sameBesides t p) :
    s.sameBesides t p := by
  rw [State.ack, reply_eq] at h
  exact h

/-- Settles O16. -/
theorem stopTakesTheContextToIdle : Obligations.StopTakesTheContextToIdle := by
  intro s n p hacc hn
  let u := s.ack (.stop n)
  have hu : u = s.ack (.stop n) := rfl
  obtain ⟨w, hw⟩ : ∃ w, w = u.removeClaims p := ⟨_, rfl⟩
  have hrem : MixOnly u w := hw ▸ mixOnly_removeClaims u p
  have hclaims : ∀ ch, (w.mixCh ch).claims.get (.ctx p) = none := fun ch => by
    rw [hw, removeClaims_get, if_pos rfl]
  have hheld : ctxIn p w.mix.held = false := by
    rw [hw, held_removeClaims, ctxIn_ctxOut, decide_eq_false (not_not.2 rfl), Bool.and_false]
  have hctx : w.ctx p = s.ctx p := hrem.ctx p
  refine ⟨u.takeStop p, exec_stop hacc hn, sameBesides_of_ack (ctxStep_takeStop p u).sameBesides, ?_⟩
  by_cases hi : (s.ctx p).activity = .idle
  · rw [takeStop_of_idle (s := u) hi, ← hw]
    refine ⟨hrem.cells, by rw [hctx, hi], hclaims, hheld, by rw [hctx],
      fun _ => ⟨hctx, hrem.reports, hrem.link⟩, fun h => absurd hi h, by rw [hrem.store]; rfl,
      fun res pp kind w hf => absurd (hi.symm.trans hf) (by simp), fun _ => by rw [hrem.store]; rfl⟩
  · obtain ⟨port, ht, hport⟩ := takeStop_of_active (s := u) hi
    rw [← hw] at ht
    obtain ⟨v, hv⟩ : ∃ v, v = w.modStore fun st => { st with port := port } := ⟨_, rfl⟩
    rw [← hv] at ht
    have hvlink : v.link = u.link := by rw [hv]; exact hrem.link
    have hvclk : v.clk = u.clk := by rw [hv]; exact hrem.clk
    have hvctx : v.ctx p = s.ctx p := by rw [hv]; exact hctx
    have hvmix : v.mix = w.mix := by rw [hv]; rfl
    have hvcells : v.cells = s.cells := by rw [hv]; exact hrem.cells
    have hvreports : v.reports = s.reports := by rw [hv]; exact hrem.reports
    have hvstore : v.store = { s.store with port := port } := by
      rw [hv]
      exact congrArg (fun st : Store => { st with port := port }) hrem.store
    have hidle : (v.enterIdle p .stopped).ctx p = { s.ctx p with activity := .idle, current := none } := by
      rw [enterIdle_ctx, if_pos rfl, hvctx]
    have hlink : (v.enterIdle p .stopped).link = (if (s.ctx p).report then
        u.notify (.contextIdle p .stopped (s.ctx p).current) else u).link := by
      rw [enterIdle_link, hvctx]
      split
      · exact notify_link_congr hvlink hvclk _
      · exact hvlink
    have hreports : (v.enterIdle p .stopped).reports = s.reports ++ [⟨p, .idle⟩] := by
      rw [enterIdle_reports, hvreports]
    rw [ht]
    refine ⟨(enterIdle_cells _ _ _).trans hvcells, by rw [hidle], fun ch => ?_, ?_, by rw [hidle],
      fun h => absurd h hi, fun _ => ⟨by rw [hidle], hreports, hlink⟩, ?_,
      fun res pp kind w hf hp => ?_, fun hne => ?_⟩
    · rw [State.mixCh, enterIdle_mix, hvmix]
      exact hclaims ch
    · rw [enterIdle_mix, hvmix, hheld]
    · rw [enterIdle_store, hvstore]
    · rw [enterIdle_store, hvstore]
      rcases hport with ⟨-, hport⟩ | ⟨hnf, -⟩
      · exact hport.trans ((congrArg _ hp).trans (withdrawn_own p kind w))
      · exact absurd hf (hnf res pp)
    · rw [enterIdle_store, hvstore]
      rcases hport with ⟨-, hport⟩ | ⟨-, hport⟩
      · exact hport.trans (withdrawn_of_ne hne)
      · exact hport

end Sys2Proof.Machine
end

section
/-! Fetch reads that complete: what a resolution shows, the LINK_STEP reads and the PROBE reads (O22, O23). -/

namespace Sys2Proof.Machine

/-! ### The fields of a word -/

theorem wordHigh_toNat (w : Word) : (wordHigh w).toNat = w.toNat / 65536 := by
  have h := w.isLt
  rw [wordHigh, BitVec.extractLsb'_toNat, Nat.shiftRight_eq_div_pow]
  omega

theorem linkPointer_eq (w : Word) : linkPointer w = BitVec.ofNat 16 (w.toNat / 65536) :=
  BitVec.eq_of_toNat_eq (by rw [← wordHigh_toNat, BitVec.toNat_ofNat, Nat.mod_eq_of_lt (wordHigh w).isLt]; rfl)

theorem recordKind_eq (w : Word) : recordKind w = w.toNat % 16 := by
  rw [recordKind, BitVec.extractLsb'_toNat, Nat.shiftRight_zero]

theorem leadCount_eq (w : Word) : leadCount w = w.toNat / 2048 % 32 := by
  rw [leadCount, BitVec.extractLsb'_toNat, Nat.shiftRight_eq_div_pow]

theorem leadFade_eq (w : Word) : leadFade w = w.toNat / 65536 := wordHigh_toNat w

/-! ### The outcome of a read (R33 to R36, R42, R63, R65) -/

/-- The port with the operation at it completed. -/
def State.freed (s : State) : State := s.modStore fun st => { st with port := none }

/-- The context goes on to an activity out of its resolution: it ends in FAULTED or IDLE, or asks for
another read. -/
def State.resolved (s : State) (p : Ctx) (a : Activity) : State :=
  match a with
  | .faulted reason word => s.enterFaulted p reason word
  | .idle => s.enterIdle p .ended
  | a => s.modCtx p fun c => { c with activity := a }

theorem ctxStep_setActivity (p : Ctx) (s : State) (a : Activity) :
    CtxStep p s (s.modCtx p fun c => { c with activity := a }) :=
  .of_keeps (keeps_modCtx s p _ rfl rfl) rfl
    (fun q hq => (State.modCtx_ctx s p q _).trans (if_neg hq)) rfl

theorem ctxStep_resolved (p : Ctx) (s : State) (a : Activity) : CtxStep p s (s.resolved p a) := by
  unfold State.resolved
  split
  · exact ctxStep_enterFaulted p s _ _
  · exact ctxStep_enterIdle p s _
  · exact ctxStep_setActivity p s a

theorem resolved_store (s : State) (p : Ctx) (a : Activity) : (s.resolved p a).store = s.store := by
  unfold State.resolved
  split
  · exact enterFaulted_store _ _ _ _
  · exact enterIdle_store _ _ _
  · rfl

theorem resolved_out (s : State) (p : Ctx) (a : Activity) : (s.resolved p a).out = s.out := by
  unfold State.resolved
  split
  · exact enterFaulted_out _ _ _ _
  · exact enterIdle_out _ _ _
  · rfl

theorem resolved_cells (s : State) (p : Ctx) (a : Activity) : (s.resolved p a).cells = s.cells := by
  unfold State.resolved
  split
  · exact enterFaulted_cells _ _ _ _
  · exact enterIdle_cells _ _ _
  · rfl

theorem resolved_mix (s : State) (p : Ctx) (a : Activity) :
    (s.resolved p a).mix = { s.mix with held := (s.resolved p a).mix.held } := by
  unfold State.resolved
  split
  · rw [enterFaulted_mix]
  · rw [enterIdle_mix]
  · rfl

theorem resolved_activity (s : State) (p : Ctx) (a : Activity) :
    ((s.resolved p a).ctx p).activity = a := by
  unfold State.resolved
  split
  · rw [enterFaulted_ctx, if_pos rfl]
  · rw [enterIdle_ctx, if_pos rfl]
  · rw [State.modCtx_ctx, if_pos rfl]

theorem setActivity_current (s : State) (p : Ctx) (a : Activity) :
    ((s.modCtx p fun c => { c with activity := a }).ctx p).current = (s.ctx p).current := by
  rw [State.modCtx_ctx, if_pos rfl]

theorem resolved_shows (s : State) (p : Ctx) (a : Activity) : s.showsOutcome (s.resolved p a) p := by
  unfold State.showsOutcome
  rw [resolved_activity]
  cases a with
  | faulted reason word =>
    refine ⟨?_, ?_, enterFaulted_link _ _ _ _, enterFaulted_reports _ _ _ _⟩
    · exact congrArg Mixer.held (enterFaulted_mix s p reason word)
    · show ((s.enterFaulted p reason word).ctx p).current = _
      rw [enterFaulted_ctx, if_pos rfl]
  | idle =>
    refine ⟨?_, ?_, enterIdle_link _ _ _, enterIdle_reports _ _ _⟩
    · exact congrArg Mixer.held (enterIdle_mix s p .ended)
    · show ((s.enterIdle p .ended).ctx p).current = none
      rw [enterIdle_ctx, if_pos rfl]
  | fetch _ _ => exact ⟨rfl, setActivity_current s p _, rfl, rfl⟩
  | running _ _ => exact ⟨rfl, setActivity_current s p _, rfl, rfl⟩
  | paused _ _ => exact ⟨rfl, setActivity_current s p _, rfl, rfl⟩
  | releasing => exact ⟨rfl, setActivity_current s p _, rfl, rfl⟩

theorem freed_notify_link (s : State) (n : Notice) : (s.freed.notify n).link = (s.notify n).link :=
  notify_link_congr (s := s) (t := s.freed) rfl rfl n

/-- What a resolution shows does not depend on the store. -/
theorem showsOutcome_arbitrate {s t : State} {p : Ctx} (h : s.freed.showsOutcome t p) :
    s.showsOutcome t.arbitrate p := by
  rw [arbitrate_eq_modStore]
  simp only [State.showsOutcome, apply_ite State.link, freed_notify_link] at h ⊢
  exact h

/-- A completed read, whatever its context makes of it: the port passes at once, the rest stays, and the
outcome is shown (R17, R42, R63, R65). -/
theorem resolved_completes (s : State) (p : Ctx) (a : Activity) :
    let t := (s.freed.resolved p a).arbitrate
    s.portPasses t ∧ s.sameBesides t p ∧ t.cells = s.cells ∧ s.showsOutcome t p ∧ t.out = s.out
      ∧ t.mix = { s.mix with held := t.mix.held } ∧ (t.ctx p).activity = a := by
  intro t
  have hstore := resolved_store s.freed p a
  have hstep : CtxStep p s t :=
    ((ctxStep_setPort p s none).trans (ctxStep_resolved p s.freed a)).trans (ctxStep_arbitrate p _)
  have ht : t = (s.freed.resolved p a).modStore _ := arbitrate_eq_modStore _
  refine ⟨portPasses_arbitrate (by rw [hstore]; rfl) (by rw [hstore]; rfl), hstep.sameBesides, ?_,
    showsOutcome_arbitrate (resolved_shows _ _ _), ?_, ?_, ?_⟩
  · rw [ht]
    exact resolved_cells _ _ _
  · rw [ht]
    exact resolved_out _ _ _
  · rw [ht]
    exact resolved_mix _ _ _
  · rw [ht]
    exact resolved_activity _ _ _

/-- A granted read that completes hands its words to the context (R18). -/
theorem completeFetch_live {s : State} {p : Ctx} {kind : ReadKind} {w : Nat} {res : Resolution} {pp : Bool}
    (h : (s.ctx p).activity = .fetch res pp) :
    s.completeFetch p kind w true = (s.freed.takeWords p kind w res.steps pp).arbitrate := by
  simp only [State.completeFetch, if_true, h]
  rfl

/-- The words of a read whose context has withdrawn are discarded (R19). -/
theorem completeFetch_withdrawn (s : State) (p : Ctx) (kind : ReadKind) (w : Nat) :
    s.completeFetch p kind w false = s.freed.arbitrate := rfl

theorem exec_linkStepReadComplete {s : State} {p : Ctx} {w : Nat} {live : Bool}
    (h : s.store.port = some (.fetch p .linkStep w live)) :
    exec .linkStepReadComplete s = .next (s.completeFetch p .linkStep w live) := by
  show execLinkStepReadComplete s = _
  unfold execLinkStepReadComplete
  rw [h]

theorem exec_probeReadComplete {s : State} {p : Ctx} {w : Nat} {live : Bool}
    (h : s.store.port = some (.fetch p .probe w live)) :
    exec .probeReadComplete s = .next (s.completeFetch p .probe w live) := by
  show execProbeReadComplete s = _
  unfold execProbeReadComplete
  rw [h]

theorem exec_recordReadComplete {s : State} {p : Ctx} {lead : Word} {w : Nat} {live : Bool}
    (h : s.store.port = some (.fetch p (.record lead) w live)) :
    exec .recordReadComplete s = .next (s.completeFetch p (.record lead) w live) := by
  show execRecordReadComplete s = _
  unfold execRecordReadComplete
  rw [h]

/-! ### LINK_STEP reads (R30 to R34) -/

/-- What a pointer field leads to (R32). -/
def fieldActivity (field : Half) (steps : Nat) (pp : Bool) : Activity :=
  if ptrEnd field then .idle
  else if ptrIndex field < 128 then .faulted .badPointer (ptrIndex field)
  else .fetch ⟨ptrIndex field, if ptrIndirect field then .linkStep else .probe, steps⟩ pp

theorem examineField_arbitrate (s : State) (p : Ctx) (field : Half) (steps : Nat) (pp : Bool) :
    (s.examineField p field steps pp).arbitrate
      = (s.resolved p (fieldActivity field steps pp)).arbitrate := by
  unfold State.examineField fieldActivity Config.headerWords
  by_cases he : ptrEnd field = true
  · rw [if_pos he, if_pos he]
    rfl
  · rw [if_neg he, if_neg he]
    by_cases hi : ptrIndex field < 128
    · rw [if_pos hi, if_pos hi]
      rfl
    · rw [if_neg hi, if_neg hi]
      exact arbitrate_arbitrate _

/-- What the word of a LINK_STEP read leads to (R33, R34). -/
def linkStepActivity (word : Word) (w steps : Nat) (pp : Bool) : Activity :=
  if word = blankWord then .faulted .blankCue w
  else if word.toNat % 16 ≠ 0 ∧ word.toNat % 16 ≠ 2 then .faulted .badRecord w
  else if 15 ≤ steps then .faulted .linkDepth w
  else if word.toNat % 16 = 2 then fieldActivity (linkPointer word) (steps + 1) pp
  else if w = 16383 then .faulted .badRecord 16383
  else .fetch ⟨w + 1, .linkStep, steps + 1⟩ pp

theorem takeLinkStep_arbitrate (s : State) (p : Ctx) (w steps : Nat) (pp : Bool) (word : Word) :
    (s.takeLinkStep p w steps pp word).arbitrate
      = (s.resolved p (linkStepActivity word w steps pp)).arbitrate := by
  unfold State.takeLinkStep linkStepActivity Config.linkSteps Config.storeWords
  rw [recordKind_eq]
  by_cases hb : word = blankWord
  · rw [if_pos hb, if_pos hb]
    rfl
  rw [if_neg hb, if_neg hb]
  by_cases h2 : word.toNat % 16 = 2
  · have hk : ¬(word.toNat % 16 ≠ 0 ∧ word.toNat % 16 ≠ 2) := fun h => h.2 h2
    rw [if_pos h2, if_neg hk]
    by_cases hs : 15 ≤ steps
    · rw [if_pos hs, if_pos hs]
      rfl
    · rw [if_neg hs, if_neg hs, if_pos h2]
      exact examineField_arbitrate _ _ _ _ _
  rw [if_neg h2]
  by_cases h0 : word.toNat % 16 = 0
  · have hk : ¬(word.toNat % 16 ≠ 0 ∧ word.toNat % 16 ≠ 2) := fun h => h.1 h0
    rw [if_pos h0, if_neg hk]
    by_cases hs : 15 ≤ steps
    · rw [if_pos hs, if_pos hs]
      rfl
    rw [if_neg hs, if_neg hs, if_neg h2]
    by_cases hw : w = 16383
    · subst hw
      rfl
    · rw [if_neg (by omega), if_neg hw]
      exact arbitrate_arbitrate _
  · rw [if_neg h0, if_pos ⟨h0, h2⟩]
    rfl

/-- Settles O22. -/
theorem linkStepsAreExamined : Obligations.LinkStepsAreExamined := by
  intro s p w steps pp hp ha
  have ht : s.completeFetch p .linkStep w true
      = (s.freed.resolved p (linkStepActivity (s.store.cells.word w) w steps pp)).arbitrate :=
    (completeFetch_live ha).trans (takeLinkStep_arbitrate _ _ _ _ _ _)
  obtain ⟨hport, hsame, hcells, hshows, hout, hmix, hact⟩ :=
    resolved_completes s p (linkStepActivity (s.store.cells.word w) w steps pp)
  refine ⟨_, (exec_linkStepReadComplete hp).trans (by rw [ht]), hport, hsame, hcells, hshows, hout, hmix, ?_⟩
  rw [hact]
  unfold linkStepActivity fieldActivity
  rw [linkPointer_eq]
  rfl

/-! ### PROBE reads (R24, R35) -/

/-- What the lead word of a PROBE read leads to (R35). -/
def probeActivity (lead : Word) (c steps : Nat) (pp : Bool) : Activity :=
  match probeFault c lead with
  | some reason => .faulted reason c
  | none => .fetch ⟨c, .record lead, steps⟩ pp

theorem takeProbe_arbitrate (s : State) (p : Ctx) (c steps : Nat) (pp : Bool) (lead : Word) :
    (s.takeProbe p c steps pp lead).arbitrate
      = (s.resolved p (probeActivity lead c steps pp)).arbitrate := by
  unfold State.takeProbe probeActivity
  cases probeFault c lead with
  | some reason => rfl
  | none => exact arbitrate_arbitrate _

theorem cueLength_eq (lead : Word) :
    cueLength lead = 2 + (if lead.getLsbD 4 then 2 else 0) + (if lead.getLsbD 5 then 1 else 0)
      + (if lead.getLsbD 6 then 1 else 0) + (lead.toNat / 2048 % 32 + 1) / 2 := by
  unfold cueLength
  rw [← leadCount_eq]
  rfl

/-- The five checks, in order (R35). -/
theorem probeActivity_eq (lead : Word) (c steps : Nat) (pp : Bool) :
    probeActivity lead c steps pp
      = if lead = 0xFFFFFFFF then .faulted .blankCue c
        else if lead.toNat % 16 ≠ 1 then .faulted .badRecord c
        else if 16 < lead.toNat / 2048 % 32 then .faulted .badRecord c
        else if lead.toNat / 65536 = 65535 then .faulted .badRecord c
        else if 16383 < c + cueLength lead - 1 then .faulted .badRecord c
        else .fetch ⟨c, .record lead, steps⟩ pp := by
  have hlen : Config.storeWords < c + cueLength lead ↔ 16383 < c + cueLength lead - 1 := by
    unfold Config.storeWords
    omega
  unfold probeActivity probeFault
  simp only [recordKind_eq, leadCount_eq, leadFade_eq, hlen, blankWord, Config.noFade]
  split_ifs <;> rfl

/-- Settles O23. -/
theorem probesAreChecked : Obligations.ProbesAreChecked := by
  intro s p c steps pp hp ha
  refine ⟨?_, cueLength_eq _⟩
  have ht : s.completeFetch p .probe c true
      = (s.freed.resolved p (probeActivity (s.store.cells.word c) c steps pp)).arbitrate :=
    (completeFetch_live ha).trans (takeProbe_arbitrate _ _ _ _ _ _)
  obtain ⟨hport, hsame, hcells, hshows, hout, hmix, hact⟩ :=
    resolved_completes s p (probeActivity (s.store.cells.word c) c steps pp)
  refine ⟨_, (exec_probeReadComplete hp).trans (by rw [ht]), hport, hsame, hcells, hshows, hout, hmix, ?_⟩
  rw [hact, probeActivity_eq, cueLength_eq]

end Sys2Proof.Machine
end

section
/-! RECORD reads: which records decode (R24 to R29, R36), and what a fault of one shows (O25). -/

namespace Sys2Proof.Machine

/-! ### Blocks, each where its flag calls for it (R26 to R28) -/

theorem wordByte_toNat (w : Word) (i : Nat) : (wordByte w i).toNat = w.toNat / 2 ^ (8 * i) % 256 := by
  rw [wordByte, BitVec.extractLsb'_toNat, Nat.shiftRight_eq_div_pow]

theorem wordByte_zero (w : Word) : (wordByte w 0).toNat = w.toNat % 256 := by
  rw [wordByte_toNat, Nat.mul_zero, Nat.pow_zero, Nat.div_one]

theorem byteFin_isSome (n : Nat) (b : Byte) : (byteFin n b).isSome = true ↔ b.toNat < n := by
  unfold byteFin
  split
  · next h => simp [h]
  · next h => simp [h]

/-- A block's outcome: taken with the words behind it where its test holds, and none where not. -/
def Takes {α : Type} (r : Option (α × List Word)) (rest : List Word) (test : Prop) : Prop :=
  test ∧ (∃ b, r = some (b, rest)) ∨ ¬test ∧ r = none

/-- A block that is absent takes no words. -/
theorem takes_absent {α : Type} (b : α) (ws : List Word) {test : Prop} (h : test) :
    Takes (some (b, ws)) ws test := .inl ⟨h, b, rfl⟩

/-- A block's test is the range of the number in byte 0 of its first word. -/
theorem takes_byteFin {α : Type} (n : Nat) (a : Word) (rest : List Word) (f : Fin n → α) {test : Prop}
    (h : test ↔ a.toNat % 256 < n) :
    Takes ((byteFin n (wordByte a 0)).bind fun k => some (f k, rest)) rest test := by
  rw [← wordByte_zero, ← byteFin_isSome] at h
  unfold Takes
  rw [h]
  cases hk : byteFin n (wordByte a 0) with
  | none => exact .inr ⟨Bool.false_ne_true, rfl⟩
  | some k => exact .inl ⟨rfl, f k, rfl⟩

/-- What follows a block is reached where the block is taken. -/
theorem Takes.bind_isSome {α β : Type} {r : Option (α × List Word)} {rest : List Word} {test Q : Prop}
    (h : Takes r rest test) {f : α × List Word → Option β} (hf : ∀ b, (f (b, rest)).isSome = true ↔ Q) :
    (r.bind f).isSome = true ↔ test ∧ Q := by
  rcases h with ⟨ht, b, hr⟩ | ⟨ht, hr⟩
  · rw [hr, Option.bind_some, hf b]
    exact (and_iff_right ht).symm
  · rw [hr, Option.bind_none]
    exact ⟨fun hn => absurd hn Bool.false_ne_true, fun hn => absurd hn.1 ht⟩

/-- The words that a flag's block takes. -/
abbrev blockLength (present : Bool) (n : Nat) : Nat := if present then n else 0

theorem takeWait_takes (present : Bool) {ws : List Word} (h : blockLength present 2 ≤ ws.length) :
    Takes (takeWait present ws) (ws.drop (blockLength present 2))
      (present = true → (ws.getD 0 0).toNat % 256 ≤ 31) := by
  match present, ws, h with
  | false, ws, _ => exact takes_absent none ws (fun h => nomatch h)
  | true, a :: b :: rest, _ =>
    exact takes_byteFin 32 a rest _ ⟨fun ht => Nat.lt_succ_of_le (ht rfl), fun hl _ => Nat.le_of_lt_succ hl⟩

theorem takeLoop_takes (present : Bool) {ws : List Word} (h : blockLength present 1 ≤ ws.length) :
    Takes (takeLoop present ws) (ws.drop (blockLength present 1))
      (present = true → (ws.getD 0 0).toNat % 256 ≤ 15) := by
  match present, ws, h with
  | false, ws, _ => exact takes_absent none ws (fun h => nomatch h)
  | true, a :: rest, _ =>
    exact takes_byteFin 16 a rest _ ⟨fun ht => Nat.lt_succ_of_le (ht rfl), fun hl _ => Nat.le_of_lt_succ hl⟩

theorem takePost_takes (present : Bool) {ws : List Word} (h : blockLength present 1 ≤ ws.length) :
    Takes (takePost present ws) (ws.drop (blockLength present 1))
      (present = true → (ws.getD 0 0).toNat % 256 ≤ 31) := by
  match present, ws, h with
  | false, ws, _ => exact takes_absent none ws (fun h => nomatch h)
  | true, a :: rest, _ =>
    exact takes_byteFin 32 a rest _ ⟨fun ht => Nat.lt_succ_of_le (ht rfl), fun hl _ => Nat.le_of_lt_succ hl⟩

/-! ### The level list (R29) -/

/-- A list is mapped through where every member is. -/
theorem mapM_isSome {α β : Type} (f : α → Option β) (l : List α) :
    (l.mapM f).isSome = true ↔ ∀ a ∈ l, (f a).isSome = true := by
  induction l with
  | nil => simp
  | cons a l ih =>
    rw [List.mapM_cons, List.forall_mem_cons, ← ih]
    cases f a with
    | none => simp
    | some b => cases l.mapM f <;> simp

theorem levelPairs_length (ws : List Word) : (levelPairs ws).length = 2 * ws.length := by
  induction ws with
  | nil => rfl
  | cons w ws ih =>
    simp only [levelPairs, List.length_cons, ih]
    omega

/-- Entry k of a level list stands in half k % 2 of word k / 2 (R29). -/
theorem levelPairs_channel (ws : List Word) {k : Nat} (h : k < (levelPairs ws).length) :
    ((levelPairs ws)[k].1).toNat = (ws.getD (k / 2) 0).toNat / 65536 ^ (k % 2) % 256 := by
  induction ws generalizing k with
  | nil => exact absurd h (Nat.not_lt_zero k)
  | cons w ws ih =>
    match k, h with
    | 0, _ =>
      show (wordByte w 0).toNat = w.toNat / 65536 ^ 0 % 256
      rw [wordByte_zero, Nat.pow_zero, Nat.div_one]
    | 1, _ =>
      show (wordByte w 2).toNat = w.toNat / 65536 ^ 1 % 256
      rw [wordByte_toNat, Nat.pow_one]
      rfl
    | k + 2, h =>
      have hd : (k + 2) / 2 = k / 2 + 1 := by omega
      have hm : (k + 2) % 2 = k % 2 := by omega
      rw [hd, hm, List.getD_cons_succ]
      exact ih (k := k) (by simpa [levelPairs] using h)

/-- The level list is taken where every entry that counts names a channel (R29, R36). -/
theorem takeLevels_isSome {count : Nat} {ws : List Word} (h : (count + 1) / 2 ≤ ws.length) :
    (takeLevels count ws).isSome = true
      ↔ ∀ k, k < count → (ws.getD (k / 2) 0).toNat / 65536 ^ (k % 2) % 256 ≤ 15 := by
  have hlen : count ≤ (levelPairs ws).length := by
    rw [levelPairs_length]
    omega
  unfold takeLevels
  rw [mapM_isSome, List.forall_mem_iff_getElem]
  simp only [List.length_take, List.getElem_take, Option.isSome_map, byteFin_isSome,
    Nat.min_eq_left hlen]
  refine forall_congr' fun k => ⟨fun hk hc => ?_, fun hk hc => ?_⟩
  · rw [← levelPairs_channel ws (hc.trans_le hlen)]
    exact Nat.le_of_lt_succ (hk hc)
  · rw [levelPairs_channel ws (hc.trans_le hlen)]
    exact Nat.lt_succ_of_le (hk hc)

/-! ### The whole record -/

/-- The blocks of a record of the right length decode where each block's numbers are in range (R36). -/
theorem decodeBlocks_isSome (c : Nat) (lead second : Word) {ws : List Word}
    (h : (second :: ws).length + 1 = cueLength lead) :
    let nWait := blockLength (lead.getLsbD 4) 2
    let nLoop := blockLength (lead.getLsbD 5) 1
    let nPost := blockLength (lead.getLsbD 6) 1
    (decodeBlocks c lead (second :: ws)).isSome = true
      ↔ (lead.getLsbD 4 = true → (ws.getD 0 0).toNat % 256 ≤ 31)
        ∧ (lead.getLsbD 5 = true → (ws.getD nWait 0).toNat % 256 ≤ 15)
        ∧ (lead.getLsbD 6 = true → (ws.getD (nWait + nLoop) 0).toNat % 256 ≤ 31)
        ∧ ∀ k, k < leadCount lead →
            (ws.getD (nWait + nLoop + nPost + k / 2) 0).toNat / 65536 ^ (k % 2) % 256 ≤ 15 := by
  intro nWait nLoop nPost
  have hlen : ws.length = nWait + nLoop + nPost + (leadCount lead + 1) / 2 := by
    rw [List.length_cons] at h
    unfold cueLength at h
    unfold leadCount
    simp only [nWait, nLoop, nPost, blockLength]
    omega
  have hdrop : ∀ n i, (ws.drop n).getD i 0 = ws.getD (n + i) 0 := fun n i => by
    rw [List.getD_eq_getElem?_getD, List.getD_eq_getElem?_getD, List.getElem?_drop]
  have hwait := takeWait_takes (lead.getLsbD 4) (ws := ws) (show nWait ≤ _ by omega)
  have hloop := takeLoop_takes (lead.getLsbD 5) (ws := ws.drop nWait) (show nLoop ≤ _ by
    rw [List.length_drop]; omega)
  have hpost := takePost_takes (lead.getLsbD 6) (ws := ws.drop (nWait + nLoop)) (show nPost ≤ _ by
    rw [List.length_drop]; omega)
  have hlevels := takeLevels_isSome (count := leadCount lead) (ws := ws.drop (nWait + nLoop + nPost)) (by
    rw [List.length_drop]; omega)
  rw [List.drop_drop, hdrop] at hloop hpost
  simp only [hdrop] at hlevels
  rw [← hlevels]
  refine hwait.bind_isSome fun _ => hloop.bind_isSome fun _ => hpost.bind_isSome fun _ => ?_
  show ((takeLevels _ _).bind _).isSome = true ↔ _
  rw [Option.isSome_bind]
  cases takeLevels (leadCount lead) (ws.drop (nWait + nLoop + nPost)) <;> rfl

theorem decodeRecord_blank (c : Nat) (lead : Word) (rest : List Word) :
    decodeRecord c lead (blankWord :: rest) = .error .blankCue := by
  dsimp only [decodeRecord]
  exact if_pos rfl

theorem decodeRecord_other {lead w : Word} (c : Nat) (rest : List Word) (hb : w ≠ blankWord) (hw : w ≠ lead) :
    decodeRecord c lead (w :: rest) = .error .badRecord := by
  dsimp only [decodeRecord]
  rw [if_neg hb, if_pos hw]

/-- A record whose first word is the probed lead word decodes where its blocks do (R36). -/
theorem decodeRecord_lead {lead : Word} (c : Nat) (rest : List Word) (hb : lead ≠ blankWord) :
    decodeRecord c lead (lead :: rest)
      = ((decodeBlocks c lead rest).elim (.error .badRecord) .ok : Except FaultReason Cue) := by
  dsimp only [decodeRecord]
  rw [if_neg hb, if_neg (not_not.2 rfl)]
  cases decodeBlocks c lead rest <;> rfl

/-- A RECORD read that does not decode: its context is FAULTED, and nothing has been started (R36, R38). -/
theorem takeRecord_of_error {c : Nat} {lead : Word} {words : List Word} {reason : FaultReason}
    (h : decodeRecord c lead words = .error reason) (s : State) (p : Ctx) (pp : Bool) :
    s.takeRecord p c pp lead words = s.resolved p (.faulted reason c) := by
  unfold State.takeRecord
  rw [h]
  rfl

/-- A RECORD read that decodes starts its cue (R37). -/
theorem takeRecord_of_ok {c : Nat} {lead : Word} {words : List Word} {cue : Cue}
    (h : decodeRecord c lead words = .ok cue) (s : State) (p : Ctx) (pp : Bool) :
    s.takeRecord p c pp lead words = s.startCue p cue pp := by
  unfold State.takeRecord
  rw [h]

/-- Settles O25. -/
theorem recordsAreChecked : Obligations.RecordsAreChecked := by
  refine ⟨fun c lead w0 rest hlen => ?_, fun s p c steps pp lead reason hp ha hd => ?_,
    fun s p kind w hp => ?_⟩
  · match rest, hlen with
    | [], hlen =>
      have hone : cueLength lead = 1 := hlen.symm
      unfold cueLength at hone
      omega
    | second :: ws, hlen =>
      intro words byte0 iLoop iPost iLevels
      refine ⟨fun h => ?_, fun hb hw => decodeRecord_other c _ hb hw, fun hb hw => ?_⟩
      · subst h
        exact decodeRecord_blank c lead _
      · subst hw
        have hget : ∀ i n, i = 2 + n → (w0 :: second :: ws).getD i 0 = ws.getD n 0 := fun i n hi => by
          rw [hi, Nat.add_comm]
          rfl
        rw [show words = w0 :: second :: ws from rfl, decodeRecord_lead c _ hb]
        refine ⟨?_, ?_⟩
        · have hloop := hget iLoop (blockLength (w0.getLsbD 4) 2) rfl
          have hpost := hget iPost (blockLength (w0.getLsbD 4) 2 + blockLength (w0.getLsbD 5) 1)
            (Nat.add_assoc _ _ _)
          have hlevels := fun k => hget (iLevels + k / 2)
            (blockLength (w0.getLsbD 4) 2 + blockLength (w0.getLsbD 5) 1 + blockLength (w0.getLsbD 6) 1
              + k / 2) (by simp only [iLevels, iPost, iLoop, blockLength]; omega)
          have hok := decodeBlocks_isSome c w0 second hlen
          dsimp only at hok
          rw [leadCount_eq] at hok
          simp only [byte0, words, hget 2 0 rfl, hloop, hpost, hlevels]
          rw [← hok]
          cases decodeBlocks c w0 (second :: ws) <;> simp
        · cases decodeBlocks c w0 (second :: ws) <;> simp
  · obtain ⟨hport, hsame, hcells, hshows, hout, hmix, hact⟩ :=
      resolved_completes s p (.faulted reason c)
    have ht : s.completeFetch p (.record lead) c true
        = (s.freed.resolved p (.faulted reason c)).arbitrate :=
      (completeFetch_live ha).trans (congrArg State.arbitrate (takeRecord_of_error hd _ _ _))
    exact ⟨_, (exec_recordReadComplete hp).trans (by rw [ht]), hact, hport, hsame, hshows, hcells,
      hout, hmix⟩
  · show _ = Host.Outcome.next s.freed.arbitrate
    rw [← completeFetch_withdrawn s p kind w]
    cases kind with
    | linkStep => exact exec_linkStepReadComplete hp
    | probe => exact exec_probeReadComplete hp
    | record lead => exact exec_recordReadComplete hp

end Sys2Proof.Machine
end

section
/-! A context's way through its phases touches no claim and no duty (R42 to R53). -/

namespace Sys2Proof.Machine

/-- A step of context p that leaves every channel of the mixer and the output stage as they are. -/
structure PhaseStep (p : Ctx) (s t : State) : Prop extends CtxStep p s t where
  channels : t.mix.channels = s.mix.channels
  output : t.out = s.out

theorem PhaseStep.refl (p : Ctx) (s : State) : PhaseStep p s s := ⟨.refl p s, rfl, rfl⟩

theorem PhaseStep.trans {p : Ctx} {s t u : State} (h : PhaseStep p s t) (k : PhaseStep p t u) :
    PhaseStep p s u :=
  ⟨h.toCtxStep.trans k.toCtxStep, k.channels.trans h.channels, k.output.trans h.output⟩

/-- Of the mixer only the held set changes. -/
theorem PhaseStep.mix_eq {p : Ctx} {s t : State} (h : PhaseStep p s t) :
    { t.mix with held := s.mix.held } = s.mix := by
  show (⟨t.mix.channels, s.mix.held, t.mix.curves⟩ : Mixer) = s.mix
  rw [h.channels, h.curves]

theorem PhaseStep.mixCh {p : Ctx} {s t : State} (h : PhaseStep p s t) (ch : Chan) :
    t.mixCh ch = s.mixCh ch := by rw [State.mixCh, State.mixCh, h.channels]

theorem phaseStep_enter (p : Ctx) (s : State) (a : Activity) : PhaseStep p s (s.enter p a) :=
  ⟨ctxStep_enter p s a, rfl, rfl⟩

theorem phaseStep_holdClaims (p : Ctx) (s : State) : PhaseStep p s (s.holdClaims p) :=
  ⟨ctxStep_holdClaims p s, rfl, rfl⟩

theorem phaseStep_arbitrate (p : Ctx) (s : State) : PhaseStep p s s.arbitrate := by
  refine ⟨ctxStep_arbitrate p s, ?_, ?_⟩ <;> rw [arbitrate_eq_modStore] <;> rfl

theorem phaseStep_resolved (p : Ctx) (s : State) (a : Activity) : PhaseStep p s (s.resolved p a) :=
  ⟨ctxStep_resolved p s a, by rw [resolved_mix], resolved_out s p a⟩

theorem phaseStep_report (p : Ctx) (s : State) (ph : Phase) : PhaseStep p s (s.report p ph) :=
  ⟨.of_keeps (keeps_report s p ph) rfl (fun _ _ => rfl) rfl, rfl, rfl⟩

theorem phaseStep_setCells (p : Ctx) (s : State) (cells : Vector Byte 16) :
    PhaseStep p s { s with cells := cells } :=
  ⟨.of_keeps { PlayKeeps.refl s with } rfl (fun _ _ => rfl) rfl, rfl, rfl⟩

/-- A pointer field is examined: the context is resolved, and where it asks for a read the port is
arbitrated (R32). -/
theorem examineField_cases (s : State) (p : Ctx) (field : Half) (steps : Nat) (pp : Bool) :
    s.examineField p field steps pp = s.resolved p (fieldActivity field steps pp)
      ∨ s.examineField p field steps pp = (s.resolved p (fieldActivity field steps pp)).arbitrate := by
  unfold State.examineField fieldActivity Config.headerWords
  by_cases he : ptrEnd field = true
  · rw [if_pos he, if_pos he]
    exact .inl rfl
  · rw [if_neg he, if_neg he]
    by_cases hi : ptrIndex field < 128
    · rw [if_pos hi, if_pos hi]
      exact .inl rfl
    · rw [if_neg hi, if_neg hi]
      exact .inr rfl

theorem phaseStep_examineField (p : Ctx) (s : State) (field : Half) (steps : Nat) (pp : Bool) :
    PhaseStep p s (s.examineField p field steps pp) := by
  have h := phaseStep_resolved p s (fieldActivity field steps pp)
  rcases examineField_cases s p field steps pp with he | he
  · rw [he]
    exact h
  · rw [he]
    exact h.trans (phaseStep_arbitrate p _)

theorem phaseStep_enterFetch (p : Ctx) (s : State) (field : Half) : PhaseStep p s (s.enterFetch p field) :=
  (phaseStep_report p s .fetch).trans (phaseStep_examineField p _ field 0 false)

theorem phaseStep_completeNormally (p : Ctx) (s : State) (cue : Cue) :
    PhaseStep p s (s.completeNormally p cue) := by
  unfold State.completeNormally
  split
  · exact phaseStep_enterFetch p s _
  · exact (phaseStep_setCells p s _).trans (phaseStep_enterFetch p _ _)

theorem phaseStep_completeFade (p : Ctx) (s : State) (cue : Cue) :
    PhaseStep p s (s.completeFade p cue) := by
  have h := fun ph => phaseStep_enter p s (.running cue ph)
  unfold State.completeFade
  split
  · dsimp only
    split
    · exact (h _).trans (phaseStep_completeNormally p _ cue)
    · exact h _
  · split
    · exact h _
    · dsimp only
      split
      · exact (h _).trans (phaseStep_completeNormally p _ cue)
      · exact h _

theorem phaseStep_enterFade (p : Ctx) (s : State) (cue : Cue) (ticks : Nat) :
    PhaseStep p s (s.enterFade p cue ticks) := by
  unfold State.enterFade
  dsimp only
  split
  · exact (phaseStep_enter p s _).trans (phaseStep_completeFade p _ cue)
  · exact phaseStep_enter p s _

end Sys2Proof.Machine
end

section
/-! The claims of a channel as claims arrive on it (R89, R91). -/

namespace Sys2Proof.Machine

@[simp] theorem ClaimSet.get_set (cs : ClaimSet) (who c : Claimant) (v : Option Claim) :
    (cs.set who v).get c = if c = who then v else cs.get c := by
  cases who with
  | ctx p =>
    cases c with
    | ctx q =>
      by_cases h : q = p
      · subst h
        simp [ClaimSet.get, ClaimSet.set]
      · have hv : p.val ≠ q.val := fun hv => h (Fin.ext hv.symm)
        simp [ClaimSet.get, ClaimSet.set, h, hv]
    | link => simp [ClaimSet.get, ClaimSet.set]
  | link =>
    cases c with
    | ctx q => simp [ClaimSet.get, ClaimSet.set]
    | link => simp [ClaimSet.get, ClaimSet.set]

/-- Two claim sets with the same claims are the same. -/
theorem ClaimSet.ext_get {a b : ClaimSet} (h : ∀ who, a.get who = b.get who) : a = b := by
  obtain ⟨actx, alink⟩ := a
  obtain ⟨bctx, blink⟩ := b
  have hc : actx = bctx := Vector.ext fun i hi => h (.ctx ⟨i, hi⟩)
  have hl : alink = blink := h .link
  rw [hc, hl]

/-- The claims of all claimants but one, in claimant order. -/
abbrev ClaimSet.others (cs : ClaimSet) (who : Claimant) : List Claim :=
  (allClaimants.filter (· ≠ who)).filterMap (cs.get ·)

/-- What is listed of a set that a claimant's claim has been taken out of. -/
theorem ClaimSet.list_set_none (cs : ClaimSet) (who : Claimant) :
    ((cs.set who none).list).map Prod.snd = cs.others who := by
  unfold ClaimSet.list ClaimSet.others
  rw [List.map_filterMap, List.filterMap_filter]
  refine List.filterMap_congr fun c _ => ?_
  by_cases h : c = who
  · simp [h]
  · cases hc : cs.get c <;> simp [h, hc]

theorem ClaimSet.length_list_set_none (cs : ClaimSet) (who : Claimant) :
    ((cs.set who none).list).length = (cs.others who).length := by
  rw [← ClaimSet.list_set_none, List.length_map]

theorem ClaimSet.length_filter_list_set_none (cs : ClaimSet) (who : Claimant) (n : Nat) :
    ((cs.set who none).list.filter fun d => d.2.stamp ≤ n).length
      = ((cs.others who).filter fun w => w.stamp ≤ n).length := by
  rw [← ClaimSet.list_set_none, List.filter_map, List.length_map]
  rfl

/-- The level from which a claimant's new claim fades (R91). -/
def MixChannel.startFor (c : MixChannel) (who : Claimant) : Byte :=
  match c.claims.get who with
  | some old => old.present
  | none => c.level

/-- The stamp counter that a new claim of a claimant finds (R89). -/
def MixChannel.counterFor (c : MixChannel) (who : Claimant) : Nat :=
  if c.stampCounter = 65535 then (c.claims.others who).length else c.stampCounter

/-- A claimant's new claim as it arrives (R91). -/
def MixChannel.newClaim (c : MixChannel) (who : Claimant) (target : Byte) (fade : Nat)
    (priority : Fin 8) : Claim :=
  { present := if fade = 0 then target else c.startFor who, start := c.startFor who, target,
    total := fade, elapsed := 0, priority, stamp := c.counterFor who + 1, releasing := false }

/-- Another claim, renumbered where the stamp counter stands at its end (R89; log 14). -/
def MixChannel.kept (c : MixChannel) (who : Claimant) (v : Claim) : Claim :=
  if c.stampCounter = 65535 then
    { v with stamp := ((c.claims.others who).filter fun w => w.stamp ≤ v.stamp).length }
  else v

theorem arrive_stampCounter (c : MixChannel) (who : Claimant) (target : Byte) (fade : Nat)
    (priority : Fin 8) :
    (c.arrive who target fade priority).stampCounter = c.counterFor who + 1 := by
  unfold MixChannel.arrive MixChannel.counterFor renumbered
  dsimp only
  split
  · rw [← ClaimSet.length_list_set_none]
  · rfl

/-- All that an arrival does to the claims: the claimant has its new claim, and the others' claims are
kept, with a new stamp where they are renumbered. -/
theorem arrive_get (c : MixChannel) (who w : Claimant) (target : Byte) (fade : Nat)
    (priority : Fin 8) :
    (c.arrive who target fade priority).claims.get w
      = if w = who then some (c.newClaim who target fade priority)
        else (c.claims.get w).map (c.kept who) := by
  unfold MixChannel.arrive MixChannel.newClaim MixChannel.kept MixChannel.counterFor renumbered
    ClaimSet.renumber
  dsimp only
  rw [ClaimSet.get_set]
  by_cases hs : c.stampCounter = 65535
  · simp only [if_pos hs, ClaimSet.get_update, ClaimSet.get_set, ClaimSet.length_list_set_none,
      ClaimSet.length_filter_list_set_none]
    by_cases hw : w = who
    · rw [if_pos hw, if_pos hw]
      rfl
    · rw [if_neg hw, if_neg hw, if_neg hw]
      cases c.claims.get w <;> rfl
  · simp only [if_neg hs, ClaimSet.get_set]
    by_cases hw : w = who
    · rw [if_pos hw, if_pos hw]
      rfl
    · rw [if_neg hw, if_neg hw, if_neg hw]
      cases c.claims.get w <;> rfl

/-! ### What an arrival reads of a channel -/

/-- Two records of a channel with the same claims and stamp counter, and the same level where a claimant's
new claim would fade from it. -/
structure SameFor (who : Claimant) (c d : MixChannel) : Prop where
  claims : c.claims = d.claims
  stampCounter : c.stampCounter = d.stampCounter
  level : c.claims.get who = none → c.level = d.level

theorem SameFor.refl (who : Claimant) (c : MixChannel) : SameFor who c c := ⟨rfl, rfl, fun _ => rfl⟩

theorem SameFor.trans {who : Claimant} {c d e : MixChannel} (h : SameFor who c d) (k : SameFor who d e) :
    SameFor who c e :=
  ⟨h.claims.trans k.claims, h.stampCounter.trans k.stampCounter,
    fun hn => (h.level hn).trans (k.level (h.claims ▸ hn))⟩

/-- An arrival reads nothing else, and leaves a claim from which the next one fades. -/
theorem SameFor.arrive {who : Claimant} {c d : MixChannel} (h : SameFor who c d) (target : Byte)
    (fade : Nat) (priority : Fin 8) :
    SameFor who (c.arrive who target fade priority) (d.arrive who target fade priority) := by
  have hstart : c.startFor who = d.startFor who := by
    unfold MixChannel.startFor
    rw [← h.claims]
    split
    · rfl
    · next hn => exact h.level hn
  have hcounter : c.counterFor who = d.counterFor who := by
    unfold MixChannel.counterFor
    rw [h.claims, h.stampCounter]
  refine ⟨ClaimSet.ext_get fun w => ?_, ?_, fun hn => ?_⟩
  · rw [arrive_get, arrive_get]
    unfold MixChannel.newClaim MixChannel.kept
    rw [hstart, hcounter, h.claims, h.stampCounter]
  · rw [arrive_stampCounter, arrive_stampCounter, hcounter]
  · rw [arrive_get, if_pos rfl] at hn
    exact absurd hn (Option.some_ne_none _)

end Sys2Proof.Machine
end

section
/-! The claims of a cue start: one level list entry after another, then the release-others (R46, R90). -/

namespace Sys2Proof.Machine

/-! ### One claim at a channel -/

theorem translate_mixCh_of_ne {ch c : Chan} (s : State) (h : c ≠ ch) :
    (s.translate ch).mixCh c = s.mixCh c :=
  congrArg Prod.fst ((viewOf_translate s ch c).trans (if_neg h))

theorem settle_mixCh_of_ne {ch c : Chan} (s : State) (h : c ≠ ch) :
    (s.settle ch).mixCh c = s.mixCh c := by
  unfold State.settle
  split
  · rfl
  · rw [translate_mixCh_of_ne _ h, State.modMix_mixCh, if_neg h]

theorem claimArrives_mixCh_of_ne {ch c : Chan} (s : State) (who : Claimant) (target : Byte) (fade : Nat)
    (priority : Fin 8) (h : c ≠ ch) :
    (s.claimArrives ch who target fade priority).mixCh c = s.mixCh c := by
  unfold State.claimArrives
  rw [settle_mixCh_of_ne _ h, State.modMix_mixCh, if_neg h]

/-- A claim arrives at its channel; what is settled behind it is not read by the claimant's next claim. -/
theorem claimArrives_sameFor (s : State) (ch : Chan) (who : Claimant) (target : Byte) (fade : Nat)
    (priority : Fin 8) :
    SameFor who ((s.claimArrives ch who target fade priority).mixCh ch)
      ((s.mixCh ch).arrive who target fade priority) := by
  have hm : (s.modMix ch fun c => c.arrive who target fade priority).mixCh ch
      = (s.mixCh ch).arrive who target fade priority := by rw [State.modMix_mixCh, if_pos rfl]
  obtain ⟨hclaims, hcounter⟩ :=
    sameClaims_settle (s.modMix ch fun c => c.arrive who target fade priority) ch ch
  rw [hm] at hclaims hcounter
  refine ⟨hclaims, hcounter, fun hn => ?_⟩
  have hsome := hclaims ▸ hn
  rw [arrive_get, if_pos rfl] at hsome
  exact absurd hsome (Option.some_ne_none _)

/-! ### The level list -/

/-- A channel's record as the entries of a level list arrive on it, one after another. -/
abbrev MixChannel.arrived (c : MixChannel) (p : Ctx) (cue : Cue) (l : List (Chan × Byte)) : MixChannel :=
  l.foldl (fun c e => c.arrive (.ctx p) e.2 cue.fade cue.priority) c

theorem SameFor.arrived {p : Ctx} {c d : MixChannel} (h : SameFor (.ctx p) c d) (cue : Cue)
    (l : List (Chan × Byte)) : SameFor (.ctx p) (c.arrived p cue l) (d.arrived p cue l) := by
  induction l generalizing c d with
  | nil => exact h
  | cons e l ih => exact ih (h.arrive _ _ _)

/-- The entries of a level list that name a channel. -/
abbrev entriesOf (ch : Chan) (l : List (Chan × Byte)) : List (Chan × Byte) := l.filter fun e => e.1 == ch

theorem cueClaim_mixCh_of_ne {ch : Chan} (s : State) (p : Ctx) (cue : Cue) {e : Chan × Byte}
    (h : ch ≠ e.1) : (s.cueClaim p cue e).mixCh ch = s.mixCh ch := by
  unfold State.cueClaim
  split
  · rfl
  · exact claimArrives_mixCh_of_ne s _ _ _ _ h

/-- The entries make their claims on the channels they name, each on its own (R46, R90). -/
theorem cueClaim_foldl_sameFor {ch : Chan} (p : Ctx) (cue : Cue) (l : List (Chan × Byte)) {s : State}
    (hs : (s.mixCh ch).secondary = false) :
    SameFor (.ctx p) ((l.foldl (fun t e => t.cueClaim p cue e) s).mixCh ch)
      ((s.mixCh ch).arrived p cue (entriesOf ch l)) := by
  induction l generalizing s with
  | nil => exact .refl _ _
  | cons e l ih =>
    have hs' : ((s.cueClaim p cue e).mixCh ch).secondary = false :=
      ((keeps_cueClaim s p cue e).secondary ch).trans hs
    have hrest := ih hs'
    by_cases h : ch = e.1
    · subst h
      have hclaim : SameFor (.ctx p) ((s.cueClaim p cue e).mixCh e.1)
          ((s.mixCh e.1).arrive (.ctx p) e.2 cue.fade cue.priority) := by
        unfold State.cueClaim
        rw [if_neg (by rw [hs]; exact Bool.false_ne_true)]
        exact claimArrives_sameFor s _ _ _ _ _
      have hentries : entriesOf e.1 (e :: l) = e :: entriesOf e.1 l :=
        List.filter_cons_of_pos (beq_iff_eq.2 rfl)
      rw [hentries]
      exact hrest.trans (hclaim.arrived cue _)
    · have hentries : entriesOf ch (e :: l) = entriesOf ch l :=
        List.filter_cons_of_neg fun he => h (beq_iff_eq.1 he).symm
      rw [cueClaim_mixCh_of_ne s p cue h] at hrest
      rw [hentries]
      exact hrest

/-- A secondary takes no claim of a cue (R107). -/
theorem cueClaim_foldl_secondary {ch : Chan} (p : Ctx) (cue : Cue) (l : List (Chan × Byte)) {s : State}
    (hs : (s.mixCh ch).secondary = true) :
    (l.foldl (fun t e => t.cueClaim p cue e) s).mixCh ch = s.mixCh ch := by
  refine foldl_keeps (P := fun t => t.mixCh ch = s.mixCh ch) (fun t e ht => ?_) l rfl
  by_cases h : ch = e.1
  · have hsec : (t.mixCh e.1).secondary = true := by rw [← h, ht, hs]
    unfold State.cueClaim
    rw [if_pos hsec, ht]
  · rw [cueClaim_mixCh_of_ne t p cue h, ht]

/-- A channel that no entry names takes no claim of a cue. -/
theorem cueClaim_foldl_unnamed {ch : Chan} (p : Ctx) (cue : Cue) {l : List (Chan × Byte)} (s : State)
    (h : ch ∉ l.map Prod.fst) : (l.foldl (fun t e => t.cueClaim p cue e) s).mixCh ch = s.mixCh ch := by
  induction l generalizing s with
  | nil => rfl
  | cons e l ih =>
    rw [List.map_cons, List.mem_cons, not_or] at h
    rw [List.foldl_cons, ih _ h.2, cueClaim_mixCh_of_ne s p cue h.1]

theorem held_cueClaim (s : State) (p : Ctx) (cue : Cue) (e : Chan × Byte) :
    (s.cueClaim p cue e).mix.held = s.mix.held := by
  unfold State.cueClaim
  split
  · rfl
  · exact held_settle _ _

/-! ### The release-others (R46, R92) -/

theorem ClaimSet.update_some (cs : ClaimSet) : (cs.update fun _ v => some v) = cs :=
  ClaimSet.ext_get fun who => by rw [ClaimSet.get_update, Option.bind_fun_some]

/-- What flag X makes of a claim: the context's own claims on channels that are not named are released,
but those already releasing. -/
def releasedByCue (p : Ctx) (cue : Cue) (ch : Chan) (who : Claimant) (v : Claim) : Option Claim :=
  if cue.releaseOthers = true ∧ who = .ctx p ∧ ch ∉ cue.levels.map Prod.fst ∧ v.releasing = false then
    v.release cue.fade
  else some v

theorem releasedByCue_of_named {ch : Chan} {p : Ctx} {cue : Cue} (h : ch ∈ cue.levels.map Prod.fst) :
    releasedByCue p cue ch = fun _ v => some v := by
  funext who v
  exact if_neg fun hr => hr.2.2.1 h

theorem releasedByCue_of_ne {ch : Chan} {p : Ctx} {cue : Cue} {who : Claimant} (h : who ≠ .ctx p) :
    releasedByCue p cue ch who = fun v => some v := by
  funext v
  exact if_neg fun hr => h hr.2.1

/-- A cue's claims: the entries have arrived, then the others are released (R46). -/
theorem cueClaims_claims (s : State) (p : Ctx) (cue : Cue) (ch : Chan) :
    let listed := (cue.levels.foldl (fun t e => t.cueClaim p cue e) s).mixCh ch
    ((s.cueClaims p cue).mixCh ch).claims = listed.claims.update (releasedByCue p cue ch)
      ∧ ((s.cueClaims p cue).mixCh ch).stampCounter = listed.stampCounter := by
  intro listed
  unfold State.cueClaims
  dsimp only
  by_cases hx : cue.releaseOthers = true
  · rw [if_pos hx]
    have hf : releasedByCue p cue ch = fun who v =>
        if who = .ctx p ∧ ch ∉ cue.levels.map Prod.fst ∧ v.releasing = false then v.release cue.fade
        else some v := by
      funext who v
      exact if_congr (and_iff_right hx) rfl rfl
    rw [hf]
    exact updateClaims_mixCh _ _ ch
  · have hf : releasedByCue p cue ch = fun _ v => some v := by
      funext who v
      exact if_neg fun hr => hx hr.1
    rw [if_neg hx, hf, ClaimSet.update_some]
    exact ⟨rfl, rfl⟩

theorem held_cueClaims (s : State) (p : Ctx) (cue : Cue) :
    (s.cueClaims p cue).mix.held = s.mix.held := by
  have h : (cue.levels.foldl (fun t e => t.cueClaim p cue e) s).mix.held = s.mix.held :=
    foldl_keeps (P := fun t => t.mix.held = s.mix.held)
      (fun t e ht => (held_cueClaim t p cue e).trans ht) _ rfl
  unfold State.cueClaims
  dsimp only
  split
  · rw [State.releaseOthers, held_updateClaims]
    exact h
  · exact h

/-! ### What a cue start leaves at each channel -/

/-- On a channel that the level list names, and that is no secondary, the entries have arrived. -/
theorem cueClaims_named {s : State} {ch : Chan} {p : Ctx} {cue : Cue} (hs : (s.mixCh ch).secondary = false)
    (hn : ch ∈ cue.levels.map Prod.fst) :
    ((s.cueClaims p cue).mixCh ch).claims
        = ((s.mixCh ch).arrived p cue (entriesOf ch cue.levels)).claims
      ∧ ((s.cueClaims p cue).mixCh ch).stampCounter
        = ((s.mixCh ch).arrived p cue (entriesOf ch cue.levels)).stampCounter := by
  obtain ⟨hclaims, hcounter⟩ := cueClaims_claims s p cue ch
  have hlisted := cueClaim_foldl_sameFor p cue cue.levels hs
  rw [hclaims, hcounter, releasedByCue_of_named hn, ClaimSet.update_some]
  exact ⟨hlisted.claims, hlisted.stampCounter⟩

/-- A secondary that the level list names keeps its claims (R107). -/
theorem cueClaims_secondary {s : State} {ch : Chan} {p : Ctx} {cue : Cue} (hs : (s.mixCh ch).secondary = true)
    (hn : ch ∈ cue.levels.map Prod.fst) :
    ((s.cueClaims p cue).mixCh ch).claims = (s.mixCh ch).claims := by
  rw [(cueClaims_claims s p cue ch).1, cueClaim_foldl_secondary p cue cue.levels hs,
    releasedByCue_of_named hn, ClaimSet.update_some]

/-- On a channel that is not named the context's own claim may be released, and all else stays. -/
theorem cueClaims_unnamed {s : State} {ch : Chan} {p : Ctx} {cue : Cue}
    (hn : ch ∉ cue.levels.map Prod.fst) :
    (∀ who, ((s.cueClaims p cue).mixCh ch).claims.get who
        = ((s.mixCh ch).claims.get who).bind (releasedByCue p cue ch who))
      ∧ ((s.cueClaims p cue).mixCh ch).stampCounter = (s.mixCh ch).stampCounter := by
  obtain ⟨hclaims, hcounter⟩ := cueClaims_claims s p cue ch
  rw [cueClaim_foldl_unnamed p cue s hn] at hclaims hcounter
  exact ⟨fun who => by rw [hclaims, ClaimSet.get_update], hcounter⟩

/-! ### What the arrivals make of the claims -/

/-- A claim with its stamp left out. -/
abbrev Claim.unstamped (v : Claim) : Claim := { v with stamp := 0 }

/-- Arrivals of one claimant change nothing but the stamps of the others' claims (R89). -/
theorem arrived_others (c : MixChannel) {p : Ctx} (cue : Cue) (l : List (Chan × Byte)) {who : Claimant}
    (h : who ≠ .ctx p) :
    ((c.arrived p cue l).claims.get who).map Claim.unstamped = (c.claims.get who).map Claim.unstamped := by
  induction l generalizing c with
  | nil => rfl
  | cons e l ih =>
    rw [MixChannel.arrived, List.foldl_cons]
    refine (ih _).trans ?_
    rw [arrive_get, if_neg h, Option.map_map]
    refine congrArg (Option.map · _) (funext fun v => ?_)
    unfold MixChannel.kept
    dsimp only [Function.comp]
    split <;> rfl

/-- The claim that stands is the one of the last entry (R90). -/
theorem arrived_own (c : MixChannel) (p : Ctx) (cue : Cue) {l : List (Chan × Byte)} {e : Chan × Byte}
    (h : l.getLast? = some e) :
    ∃ d : MixChannel, (c.arrived p cue l).claims.get (.ctx p)
      = some (d.newClaim (.ctx p) e.2 cue.fade cue.priority) := by
  obtain ⟨l', rfl⟩ := List.getLast?_eq_some_iff.1 h
  refine ⟨c.arrived p cue l', ?_⟩
  rw [MixChannel.arrived, List.foldl_append]
  exact (arrive_get _ _ _ _ _ _).trans (if_pos rfl)

end Sys2Proof.Machine
end

section
/-! A decoded cue starts (R37, R45 to R47, R79, R89 to R91). -/

namespace Sys2Proof.Machine

/-! ### The claims that a cue start leaves -/

theorem mem_names_of_mem_entries {ch : Chan} {l : List (Chan × Byte)} {e : Chan × Byte}
    (h : e ∈ entriesOf ch l) : ch ∈ l.map Prod.fst := by
  obtain ⟨hl, he⟩ := List.mem_filter.1 h
  exact List.mem_map.2 ⟨e, hl, beq_iff_eq.1 he⟩

/-- Of the other claimants' claims a cue start changes the stamps alone (R89, R90). -/
theorem cueClaims_others_unstamped (s : State) (ch : Chan) {p : Ctx} (cue : Cue) {who : Claimant}
    (h : who ≠ .ctx p) :
    (((s.cueClaims p cue).mixCh ch).claims.get who).map Claim.unstamped
      = ((s.mixCh ch).claims.get who).map Claim.unstamped := by
  by_cases hn : ch ∈ cue.levels.map Prod.fst
  · cases hs : (s.mixCh ch).secondary with
    | true => rw [cueClaims_secondary hs hn]
    | false => rw [(cueClaims_named hs hn).1, arrived_others _ _ _ h]
  · rw [(cueClaims_unnamed hn).1 who, releasedByCue_of_ne h, Option.bind_fun_some]

/-- The last entry of a channel gives the context's claim there (R46, R90). -/
theorem cueClaims_own {s : State} {ch : Chan} {p : Ctx} {cue : Cue} {level : Byte}
    (hs : (s.mixCh ch).secondary = false)
    (hl : (entriesOf ch cue.levels).getLast? = some (ch, level)) :
    ∃ v, ((s.cueClaims p cue).mixCh ch).claims.get (.ctx p) = some v ∧ v.target = level
      ∧ v.total = cue.fade ∧ v.elapsed = 0 ∧ v.priority = cue.priority
      ∧ v.releasing = false ∧ v.present = (if cue.fade = 0 then level else v.start) := by
  obtain ⟨d, hd⟩ := arrived_own (s.mixCh ch) p cue hl
  rw [(cueClaims_named hs (mem_names_of_mem_entries (List.mem_of_getLast? hl))).1, hd]
  exact ⟨_, rfl, rfl, rfl, rfl, rfl, rfl, rfl⟩

/-- A channel with one entry: the new claim, and what the others' claims become (R89, R91). -/
theorem cueClaims_single {s : State} {ch : Chan} {p : Ctx} {cue : Cue} {level : Byte}
    (hs : (s.mixCh ch).secondary = false) (hl : entriesOf ch cue.levels = [(ch, level)]) :
    ((s.cueClaims p cue).mixCh ch).claims.get (.ctx p)
        = some ((s.mixCh ch).newClaim (.ctx p) level cue.fade cue.priority)
      ∧ ((s.cueClaims p cue).mixCh ch).stampCounter = (s.mixCh ch).counterFor (.ctx p) + 1
      ∧ ∀ who, who ≠ .ctx p → ((s.cueClaims p cue).mixCh ch).claims.get who
          = ((s.mixCh ch).claims.get who).map ((s.mixCh ch).kept (.ctx p)) := by
  have hn : ch ∈ cue.levels.map Prod.fst := mem_names_of_mem_entries (hl ▸ List.mem_singleton_self _)
  obtain ⟨hclaims, hcounter⟩ := cueClaims_named (s := s) (p := p) hs hn
  rw [hl] at hclaims hcounter
  have harrived : (s.mixCh ch).arrived p cue [(ch, level)]
      = (s.mixCh ch).arrive (.ctx p) level cue.fade cue.priority := rfl
  rw [harrived] at hclaims hcounter
  rw [hclaims, hcounter]
  exact ⟨(arrive_get _ _ _ _ _ _).trans (if_pos rfl), arrive_stampCounter _ _ _ _ _,
    fun who hw => (arrive_get _ _ _ _ _ _).trans (if_neg hw)⟩

/-- The context's own claim on a channel that is not named: flag X releases it (R46, R92). -/
theorem releasedByCue_own {ch : Chan} {p : Ctx} {cue : Cue} (hn : ch ∉ cue.levels.map Prod.fst) (v : Claim) :
    releasedByCue p cue ch (.ctx p) v
      = if cue.releaseOthers = false ∨ v.releasing = true then some v else v.release cue.fade := by
  unfold releasedByCue
  cases hx : cue.releaseOthers <;> cases hv : v.releasing <;> simp [hn]

/-! ### The state in which a started cue enters its first phase -/

/-- The arrival set that a cue start leaves (R45, R72, R79). -/
def Cue.arrivals (cue : Cue) : BitVec 32 :=
  match cue.post with
  | none => 0
  | some e => 1#32 <<< e.val

/-- The posts of a cue's post block (R79). -/
def Cue.postsOf (cue : Cue) (p : Ctx) : List (Ctx × EventId) :=
  match cue.post with
  | none => []
  | some e => (allCtx.filter fun q => q ≠ p).map fun q => (q, e)

/-- A cue start's first steps: the arrival set is emptied, and the cue is the current one (R45). -/
def State.cueEmptied (s : State) (p : Ctx) (cue : Cue) : State :=
  s.modCtx p fun c => { c with arrivals := 0, current := some cue.word }

theorem cueEmptied_mixCh (s : State) (p : Ctx) (cue : Cue) (ch : Chan) :
    (s.cueEmptied p cue).mixCh ch = s.mixCh ch := rfl

/-- The part once the cue's claims have been made (R45, R46). -/
def State.cueTaken (s : State) (p : Ctx) (cue : Cue) : State := (s.cueEmptied p cue).cueClaims p cue

/-- The part when a started cue enters FADE or PAUSED: steps 1 to 6 of R45 are taken. -/
def State.cueOpened (s : State) (p : Ctx) (cue : Cue) (pp : Bool) : State :=
  { s with
    contexts := s.contexts.set p { s.ctx p with arrivals := cue.arrivals, current := some cue.word }
    mix := (s.cueTaken p cue).mix
    out := (s.cueTaken p cue).out
    posts := s.posts ++ cue.postsOf p
    link := (if (s.ctx p).report then s.notify (.cueStarted p cue.word pp) else s).link }

/-- The claims of a cue, its post, and its notice (R45). -/
theorem cueOpened_eq (s : State) (p : Ctx) (cue : Cue) (pp : Bool) :
    (let u := (s.cueTaken p cue).cuePost p cue.post
     if (u.ctx p).report then u.notify (.cueStarted p cue.word pp) else u) = s.cueOpened p cue pp := by
  obtain ⟨m, o, htaken⟩ : ∃ m o, s.cueTaken p cue = { s with
      contexts := s.contexts.set p { s.ctx p with arrivals := 0, current := some cue.word }
      mix := m, out := o } := ⟨_, _, (mixOnly_cueClaims _ p cue).eq⟩
  have hpost : (s.cueTaken p cue).cuePost p cue.post
      = { s.cueOpened p cue pp with link := s.link } := by
    unfold State.cueOpened Cue.arrivals Cue.postsOf State.cuePost
    rw [htaken]
    cases cue.post with
    | none => simp
    | some e => simp [State.modCtx, State.postTo, Context.arrive, State.ctx, allCtx]
  have hreport : (((s.cueTaken p cue).cuePost p cue.post).ctx p).report = (s.ctx p).report := by
    rw [hpost]
    simp [State.ctx, State.cueOpened]
  dsimp only
  rw [hreport, hpost]
  unfold State.cueOpened
  split
  · exact notify_of_same (s := s) (by rfl) (by rfl) _
  · rfl

theorem startCue_eq (s : State) (p : Ctx) (cue : Cue) (pp : Bool) :
    s.startCue p cue pp
      = if pp then ((s.cueOpened p cue pp).enter p (.paused cue (.fade cue.fade))).holdClaims p
        else (s.cueOpened p cue pp).enterFade p cue cue.fade := by
  rw [← cueOpened_eq]
  rfl

/-! ### What a cue start leaves as it is -/

theorem decodeBlocks_word {c : Nat} {lead : Word} {rest : List Word} {cue : Cue}
    (h : decodeBlocks c lead rest = some cue) : cue.word = c := by
  unfold decodeBlocks at h
  split at h
  · cases h
  · simp only [Option.bind_eq_bind, Option.bind_eq_some_iff, Option.some.injEq] at h
    obtain ⟨_, -, _, -, _, -, _, -, hcue⟩ := h
    rw [← hcue]

/-- A decoded cue's word is the one it was read from (R37). -/
theorem decodeRecord_word {c : Nat} {lead : Word} {words : List Word} {cue : Cue}
    (h : decodeRecord c lead words = .ok cue) : cue.word = c := by
  unfold decodeRecord at h
  split at h
  · cases h
  · split at h
    · cases h
    · split at h
      · cases h
      · split at h
        · next hb =>
          cases h
          exact decodeBlocks_word hb
        · cases h

/-- The context's first phase touches no claim, no duty and no post (R45, R49). -/
theorem phaseStep_startCue (p : Ctx) (s : State) (cue : Cue) (pp : Bool) :
    PhaseStep p (s.cueOpened p cue pp) (s.startCue p cue pp) := by
  rw [startCue_eq]
  split
  · exact (phaseStep_enter p _ _).trans (phaseStep_holdClaims p _)
  · exact phaseStep_enterFade p _ cue cue.fade

theorem cueOpened_mixCh (s : State) (p : Ctx) (cue : Cue) (pp : Bool) (ch : Chan) :
    (s.cueOpened p cue pp).mixCh ch = (s.cueTaken p cue).mixCh ch := rfl

theorem cueOpened_held (s : State) (p : Ctx) (cue : Cue) (pp : Bool) :
    (s.cueOpened p cue pp).mix.held = s.mix.held :=
  held_cueClaims _ p cue

theorem cueOpened_ctx (s : State) (p q : Ctx) (cue : Cue) (pp : Bool) :
    (s.cueOpened p cue pp).ctx q
      = if q = p then { s.ctx p with arrivals := cue.arrivals, current := some cue.word } else s.ctx q :=
  State.modCtx_ctx s p q fun _ => _

/-- Beside the claims and the posts a cue start is a step of its context. -/
theorem ctxStep_of_started {p : Ctx} {s t : State} (hk : PlayKeeps s t)
    (hc : ∀ q, q ≠ p → t.ctx q = s.ctx q) (hh : ∀ q, q ≠ p → ctxIn q t.mix.held = ctxIn q s.mix.held) :
    CtxStep p s { t with posts := s.posts, mix := { t.mix with channels := s.mix.channels } } :=
  { hk with
    arbitration := fun _ => rfl
    curve := fun _ => rfl
    secondary := fun _ => rfl
    secondaries := id
    posts := ⟨[], (List.append_nil _).symm⟩
    samePosts := rfl
    ctx := hc
    claims := fun _ _ _ => rfl
    held := hh }

/-- What a step out of the opened state leaves: all but the first phase. -/
theorem sameBesides_of_opened {s t : State} {p : Ctx} {cue : Cue} {pp : Bool} (hk : PlayKeeps s t)
    (ht : PhaseStep p (s.freed.cueOpened p cue pp) t) :
    s.sameBesides { t with posts := s.posts, mix := { t.mix with channels := s.mix.channels } } p := by
  refine (ctxStep_of_started hk (fun q hq => ?_) fun q hq => ?_).sameBesides
  · rw [ht.ctx q hq, cueOpened_ctx, if_neg hq]
    rfl
  · rw [ht.held q hq, cueOpened_held]
    rfl

/-- The first phase of a started cue, where it does not complete at once. -/
def firstActivity (cue : Cue) (pp : Bool) : Activity :=
  if pp then .paused cue (.fade cue.fade) else .running cue (.fade cue.fade)

/-- A cue that starts with a count of ticks, or in PAUSED (R45, R47). -/
theorem startCue_shows {cue : Cue} {pp : Bool} (h : pp = true ∨ cue.fade ≠ 0) (s : State) (p : Ctx) :
    let t := s.startCue p cue pp
    (t.ctx p).activity = firstActivity cue pp ∧ (t.ctx p).current = some cue.word
      ∧ (t.ctx p).arrivals = cue.arrivals
      ∧ t.mix.held = (if pp then s.mix.held ||| ctxBit p else s.mix.held)
      ∧ t.link = (if (s.ctx p).report then s.notify (.cueStarted p cue.word pp) else s).link
      ∧ t.reports = s.reports ++ [⟨p, if pp then .paused else .fade⟩]
      ∧ t.cells = s.cells := by
  intro t
  have hctx : ∀ a, ((s.cueOpened p cue pp).enter p a).ctx p
      = { s.ctx p with activity := a, arrivals := cue.arrivals, current := some cue.word } := fun a => by
    rw [State.enter, State.report_ctx_same, State.modCtx_ctx, if_pos rfl, cueOpened_ctx, if_pos rfl]
  have ht : t = s.startCue p cue pp := rfl
  cases pp with
  | true =>
    have hstart : t = ((s.cueOpened p cue true).enter p (.paused cue (.fade cue.fade))).holdClaims p := by
      rw [ht, startCue_eq, if_pos rfl]
    rw [hstart, State.holdClaims_ctx_same, hctx]
    exact ⟨rfl, rfl, rfl, congrArg (· ||| ctxBit p) (cueOpened_held s p cue true), rfl, rfl, rfl⟩
  | false =>
    have hf : cue.fade ≠ 0 := h.resolve_left Bool.false_ne_true
    have hstart : t = (s.cueOpened p cue false).enter p (.running cue (.fade cue.fade)) := by
      rw [ht, startCue_eq, if_neg Bool.false_ne_true, State.enterFade, if_neg hf]
    rw [hstart, hctx]
    exact ⟨rfl, rfl, rfl, cueOpened_held s p cue false, rfl, rfl, rfl⟩

/-- A cue of fade 0 that starts unpaused completes its fade at once (R45). -/
theorem startCue_of_fade_zero {cue : Cue} (h : cue.fade = 0) (s : State) (p : Ctx) :
    s.startCue p cue false
      = ((s.cueOpened p cue false).enter p (.running cue (.fade 0))).completeFade p cue := by
  rw [startCue_eq, if_neg Bool.false_ne_true, State.enterFade, if_pos h, h]

/-- The state in which a cue of fade 0 completes, from what its completion leaves: its duties, claims and
posts. -/
theorem cueOpened_enter_eq {s t : State} {p : Ctx} {cue : Cue}
    (ht : PhaseStep p ((s.cueOpened p cue false).enter p (.running cue (.fade 0))) t) :
    (s.cueOpened p cue false).enter p (.running cue (.fade 0)) = { s with
      contexts := s.contexts.set p { s.ctx p with
        activity := .running cue (.fade 0), current := some cue.word, arrivals := cue.arrivals }
      mix := { t.mix with held := s.mix.held }
      out := t.out
      posts := t.posts
      link := (if (s.ctx p).report then s.notify (.cueStarted p cue.word false) else s).link
      reports := s.reports ++ [⟨p, .fade⟩] } := by
  have hmix : { t.mix with held := s.mix.held } = (s.cueOpened p cue false).mix := by
    rw [← cueOpened_held s p cue false]
    exact ht.mix_eq
  rw [hmix, ht.output, ht.samePosts]
  simp [State.enter, State.report, State.modCtx, State.cueOpened, Activity.phase]

/-! ### The port after a cue start (R17) -/

/-- A step that ends with the port arbitrated, once or more often, from this store. -/
def ArbitratedFrom (st : Store) (t : State) : Prop := ∃ u : State, u.store = st ∧ t.arbitrate = u.arbitrate

theorem arbitratedFrom_of_store {st : Store} {t : State} (h : t.store = st) : ArbitratedFrom st t :=
  ⟨t, h, rfl⟩

theorem arbitratedFrom_enterFetch {st : Store} {s : State} (h : s.store = st) (p : Ctx) (field : Half) :
    ArbitratedFrom st (s.enterFetch p field) :=
  ⟨_, (resolved_store (s.report p .fetch) p _).trans h,
    examineField_arbitrate (s.report p .fetch) p field 0 false⟩

theorem arbitratedFrom_completeNormally {st : Store} {s : State} (h : s.store = st) (p : Ctx) (cue : Cue) :
    ArbitratedFrom st (s.completeNormally p cue) := by
  unfold State.completeNormally
  split
  · exact arbitratedFrom_enterFetch h p _
  · exact arbitratedFrom_enterFetch (by exact h) p _

theorem arbitratedFrom_completeFade {st : Store} {s : State} (h : s.store = st) (p : Ctx) (cue : Cue) :
    ArbitratedFrom st (s.completeFade p cue) := by
  have henter : ∀ a, ArbitratedFrom st (s.enter p a) := fun a => arbitratedFrom_of_store h
  have hcomplete : ∀ a, ArbitratedFrom st ((s.enter p a).completeNormally p cue) :=
    fun a => arbitratedFrom_completeNormally (s := s.enter p a) h p cue
  unfold State.completeFade
  split
  · dsimp only
    split
    · exact hcomplete _
    · exact henter _
  · split
    · exact henter _
    · dsimp only
      split
      · exact hcomplete _
      · exact henter _

theorem arbitratedFrom_startCue (s : State) (p : Ctx) (cue : Cue) (pp : Bool) :
    ArbitratedFrom s.store (s.startCue p cue pp) := by
  rw [startCue_eq]
  split
  · exact arbitratedFrom_of_store rfl
  · unfold State.enterFade
    dsimp only
    split
    · exact arbitratedFrom_completeFade (s := (s.cueOpened p cue pp).enter p _) rfl p cue
    · exact arbitratedFrom_of_store rfl

/-- The port passes at once (R17). -/
theorem ArbitratedFrom.portPasses {s t : State} (h : ArbitratedFrom s.freed.store t) :
    s.portPasses t.arbitrate := by
  obtain ⟨u, hu, ht⟩ := h
  rw [ht]
  exact portPasses_arbitrate (by rw [hu]; rfl) (by rw [hu]; rfl)

/-- Settles O26. -/
theorem decodedCuesStart : Obligations.DecodedCuesStart := by
  intro s p c steps pp lead cue hp ha hd
  have hword : cue.word = c := decodeRecord_word hd
  obtain ⟨v, hv⟩ : ∃ v, v = s.freed.startCue p cue pp := ⟨_, rfl⟩
  have hopened : PhaseStep p (s.freed.cueOpened p cue pp) v.arbitrate :=
    hv ▸ (phaseStep_startCue p _ cue pp).trans (phaseStep_arbitrate p _)
  have hcomplete : s.completeFetch p (.record lead) c true = v.arbitrate :=
    (completeFetch_live ha).trans (congrArg State.arbitrate
      ((takeRecord_of_ok hd s.freed p pp).trans hv.symm))
  have hkeeps : PlayKeeps s v.arbitrate := hcomplete ▸ keeps_completeFetch s p _ c true
  obtain ⟨e, he⟩ : ∃ e, e = s.freed.cueEmptied p cue := ⟨_, rfl⟩
  have hs : ∀ ch, s.mixCh ch = e.mixCh ch := fun ch => by
    rw [he, cueEmptied_mixCh]
    rfl
  have hch : ∀ ch, v.arbitrate.mixCh ch = (e.cueClaims p cue).mixCh ch := fun ch => by
    rw [hopened.mixCh, cueOpened_mixCh, State.cueTaken, he]
  refine ⟨v.arbitrate, (exec_recordReadComplete hp).trans (by rw [hcomplete]),
    (hv ▸ arbitratedFrom_startCue s.freed p cue pp).portPasses,
    sameBesides_of_opened hkeeps hopened, fun ch who hw => ?_, fun ch level hsec hlast => ?_,
    fun ch hsec hn => ?_, fun ch level hsec hone => ?_, fun ch hn => ?_, fun ch hsec hn => ?_,
    fun ch hn => ?_, ?_, fun hfirst => ?_, fun hpp hfade => ?_⟩
  · rw [hch, hs]
    exact cueClaims_others_unstamped e ch cue hw
  · rw [hch]
    exact cueClaims_own (hs ch ▸ hsec) hlast
  · rw [hch, hs]
    exact cueClaims_named (hs ch ▸ hsec) hn
  · rw [hch, hs]
    exact cueClaims_single (hs ch ▸ hsec) hone
  · obtain ⟨hget, hcounter⟩ := cueClaims_unnamed (s := e) (p := p) hn
    rw [hch, hs]
    refine ⟨hcounter, fun who hw => (hget who).trans ?_⟩
    rw [releasedByCue_of_ne hw, Option.bind_fun_some]
  · rw [hch, hs]
    exact cueClaims_secondary (hs ch ▸ hsec) hn
  · rw [hch, hs, (cueClaims_unnamed hn).1]
    cases (e.mixCh ch).claims.get (.ctx p) with
    | none => rfl
    | some w => exact releasedByCue_own hn w
  · exact hopened.samePosts
  · have hshows := startCue_shows hfirst s.freed p
    rw [← hv, hword] at hshows
    rw [arbitrate_eq_modStore]
    simp only [apply_ite State.link, freed_notify_link] at hshows ⊢
    exact hshows
  · subst hpp
    rw [startCue_of_fade_zero hfade] at hv
    have hstep : PhaseStep p ((s.freed.cueOpened p cue false).enter p (.running cue (.fade 0)))
        v.arbitrate :=
      hv ▸ (phaseStep_completeFade p _ cue).trans (phaseStep_arbitrate p _)
    have hstarted := cueOpened_enter_eq hstep
    intro started u
    have hu : (s.freed.cueOpened p cue false).enter p (.running cue (.fade 0)) = u := by
      rw [hstarted, hword]
      simp only [u, apply_ite State.link, freed_notify_link]
      rfl
    rw [← hu, ← hv]

end Sys2Proof.Machine
end

section
/-! A pointer field is followed: IDLE, FAULTED, or a fetch request that the arbiter sees at once (O19). -/

namespace Sys2Proof.Machine

/-! ### What the arbiter leaves of an outcome (R17) -/

theorem activity_arbitrate (s : State) (p : Ctx) :
    (s.arbitrate.ctx p).activity = (s.ctx p).activity := by
  rw [arbitrate_eq_modStore]
  rfl

/-- Nothing that an outcome shows stands in the store. -/
theorem showsOutcome_arbitrate_of_shows {s t : State} {p : Ctx} (h : s.showsOutcome t p) :
    s.showsOutcome t.arbitrate p := by
  rw [arbitrate_eq_modStore]
  exact h

theorem cells_arbitrate (s : State) : s.arbitrate.cells = s.cells := by
  rw [arbitrate_eq_modStore]
  rfl

/-! ### A pointer field that is examined (R32) -/

/-- What holds of the resolved context and the arbiter keeps holds after the examination (R32). -/
theorem examineField_of_resolved {P : State → Prop} (harb : ∀ u : State, P u → P u.arbitrate)
    {s : State} {p : Ctx} {field : Half} {steps : Nat} {pp : Bool}
    (h : P (s.resolved p (fieldActivity field steps pp))) : P (s.examineField p field steps pp) := by
  rcases examineField_cases s p field steps pp with he | he
  · exact he ▸ h
  · exact he ▸ harb _ h

section
variable (s : State) (p : Ctx) (field : Half) (steps : Nat) (pp : Bool)

theorem examineField_activity :
    ((s.examineField p field steps pp).ctx p).activity = fieldActivity field steps pp :=
  examineField_of_resolved (P := fun u => (u.ctx p).activity = fieldActivity field steps pp)
    (fun u h => (activity_arbitrate u p).trans h) (resolved_activity _ _ _)

theorem examineField_shows : s.showsOutcome (s.examineField p field steps pp) p :=
  examineField_of_resolved (P := fun u => s.showsOutcome u p)
    (fun _ => showsOutcome_arbitrate_of_shows) (resolved_shows _ _ _)

theorem examineField_cells : (s.examineField p field steps pp).cells = s.cells :=
  examineField_of_resolved (P := fun u => u.cells = s.cells)
    (fun u h => (cells_arbitrate u).trans h) (resolved_cells _ _ _)

end

/-- With an operation at the port the examination leaves the store as it is (R16). -/
theorem examineField_store_of_busy {s : State} (h : s.store.port ≠ none) (p : Ctx) (field : Half)
    (steps : Nat) (pp : Bool) : (s.examineField p field steps pp).store = s.store :=
  examineField_of_resolved (P := fun u => u.store = s.store)
    (fun u hu => by rw [arbitrate_of_busy (by rw [hu]; exact h), hu]) (resolved_store _ _ _)

/-! ### A fetch request at a free port (R16, R17, R32) -/

/-- A change of one context lets no other claimant wait. -/
theorem waitsAtPort_modCtx_of_ne (s : State) (p : Ctx) (f : Context → Context) {c : Claimant}
    (h : c ≠ .ctx p) : (s.modCtx p f).waitsAtPort c = s.waitsAtPort c := by
  cases c with
  | ctx q =>
    have hq : q ≠ p := fun hq => h (congrArg _ hq)
    simp [State.waitsAtPort, hq]
  | link => rfl

/-- The only claimant that waits is granted the free port. -/
theorem arbitrate_of_only {s : State} {c : Claimant} (hp : s.store.port = none) (ho : s.orderSound)
    (hc : s.waitsAtPort c = true) (hn : ∀ d, d ≠ c → s.waitsAtPort d = false) :
    s.arbitrate = s.grant c := by
  refine arbitrate_of_first hp ?_
  cases hf : s.store.order.find? s.waitsAtPort with
  | none => exact absurd hc (List.find?_eq_none.1 hf c (mem_order ho c))
  | some d =>
    by_contra hd
    have hw := List.find?_some hf
    rw [hn d fun h => hd (congrArg some h)] at hw
    cases hw

/-- A context that begins a read at a free port, where nobody waits, is granted it at once. -/
theorem arbitrate_fetch_of_free {s : State} (hs : s.portSound) (hp : s.store.port = none) (p : Ctx)
    (res : Resolution) (pp : Bool) :
    let t := (s.modCtx p fun c => { c with activity := .fetch res pp }).arbitrate
    t.store.port = some (.fetch p res.kind res.position true)
      ∧ t.store.order = s.store.order.erase (.ctx p) ++ [.ctx p] := by
  intro t
  obtain ⟨horder, hnone⟩ := hs
  obtain ⟨u, hu⟩ : ∃ u, u = s.modCtx p fun c => { c with activity := .fetch res pp } := ⟨_, rfl⟩
  have hact : (u.ctx p).activity = .fetch res pp := by rw [hu, State.modCtx_ctx, if_pos rfl]
  have hport : u.store.port = none := hu ▸ hp
  have hwaits : u.waitsAtPort (.ctx p) = true := by simp [State.waitsAtPort, hact, hport]
  have hothers : ∀ d, d ≠ .ctx p → u.waitsAtPort d = false := fun d hd => by
    rw [hu, waitsAtPort_modCtx_of_ne s p _ hd]
    exact hnone hp d
  have ht : t = u.grant (.ctx p) := by
    rw [← arbitrate_of_only hport (by rw [hu]; exact horder) hwaits hothers, hu]
  rw [ht]
  refine ⟨?_, by rw [hu]; rfl⟩
  show u.portRequest (.ctx p) = _
  rw [State.portRequest, hact]

/-- A pointer field of a record begins a resolution (R32). -/
theorem examineField_of_fetch {field : Half} (he : ptrEnd field = false) (hi : 128 ≤ ptrIndex field)
    (s : State) (p : Ctx) (steps : Nat) (pp : Bool) :
    s.examineField p field steps pp = (s.modCtx p fun c => { c with
      activity := .fetch ⟨ptrIndex field, if ptrIndirect field then .linkStep else .probe, steps⟩
        pp }).arbitrate := by
  unfold State.examineField Config.headerWords
  rw [if_neg (by simp [he]), if_neg (Nat.not_lt.2 hi)]

/-- Settles O19. -/
theorem pointerFieldsAreFollowed : Obligations.PointerFieldsAreFollowed := by
  intro s p field t
  have hphase : PhaseStep p s t := phaseStep_enterFetch p s field
  have hmix : t.mix = { s.mix with held := t.mix.held } := by rw [← hphase.mix_eq]
  refine ⟨examineField_activity _ p field 0 false, examineField_shows _ p field 0 false,
    hphase.sameBesides, examineField_cells _ p field 0 false, hphase.output, hmix,
    fun he hi hs hp => ?_, fun op hop => ?_⟩
  · have ht : t = _ := examineField_of_fetch he hi (s.report p .fetch) p 0 false
    rw [ht]
    exact arbitrate_fetch_of_free (s := s.report p .fetch) hs hp p _ false
  · have hstore : t.store = s.store := examineField_store_of_busy (s := s.report p .fetch)
      (fun hn => Option.some_ne_none op (hop.symm.trans hn)) p field 0 false
    exact ⟨by rw [hstore], by rw [hstore]⟩

end Sys2Proof.Machine
end

section
/-! What a decoded record gives its cue: each field from its word, each block where its flag calls for it
(O24). -/

namespace Sys2Proof.Machine

/-! ### The fields of a word -/

theorem wordLow_toNat (w : Word) : (wordLow w).toNat = w.toNat % 65536 := by
  rw [wordLow, BitVec.extractLsb'_toNat, Nat.shiftRight_zero]

theorem leadPriority_val (w : Word) : (leadPriority w).val = w.toNat / 256 % 8 := by
  show (w.extractLsb' 8 3).toNat = _
  rw [BitVec.extractLsb'_toNat, Nat.shiftRight_eq_div_pow]

/-- A byte that counts as one of n things is that number. -/
theorem byteFin_val {n : Nat} {b : Byte} {k : Fin n} (h : byteFin n b = some k) : k.val = b.toNat := by
  unfold byteFin at h
  split at h
  · cases h
    rfl
  · cases h

/-! ### The blocks (R26 to R28) -/

/-- The wait block's fields, in the two words it takes (R26). -/
def WaitBlock.readFrom (b : WaitBlock) (a a' : Word) : Prop :=
  b.event.val = a.toNat % 256 ∧ b.timeout = a.toNat / 65536 ∧ b.pointer.toNat = a'.toNat % 65536

/-- The loop block's fields, in the word it takes (R27). -/
def LoopBlock.readFrom (b : LoopBlock) (a : Word) : Prop :=
  b.cell.val = a.toNat % 256 ∧ b.reload.toNat = a.toNat / 256 % 256
    ∧ b.pointer.toNat = a.toNat / 65536

theorem takeWait_eq_some {present : Bool} {ws rest : List Word} {wait : Option WaitBlock}
    (h : takeWait present ws = some (wait, rest)) :
    rest = ws.drop (blockLength present 2)
      ∧ if present then
          ∃ a a' b, ws[0]? = some a ∧ ws[1]? = some a' ∧ wait = some b ∧ b.readFrom a a'
        else wait = none := by
  match present, ws, h with
  | false, ws, h =>
    cases h
    exact ⟨rfl, rfl⟩
  | true, a :: a' :: rest', h =>
    obtain ⟨event, hevent, hrest⟩ := Option.bind_eq_some_iff.1 h
    cases hrest
    exact ⟨rfl, a, a', _, rfl, rfl, rfl, (byteFin_val hevent).trans (wordByte_zero a),
      wordHigh_toNat a, wordLow_toNat a'⟩

theorem takeLoop_eq_some {present : Bool} {ws rest : List Word} {loop : Option LoopBlock}
    (h : takeLoop present ws = some (loop, rest)) :
    rest = ws.drop (blockLength present 1)
      ∧ if present then ∃ a b, ws[0]? = some a ∧ loop = some b ∧ b.readFrom a
        else loop = none := by
  match present, ws, h with
  | false, ws, h =>
    cases h
    exact ⟨rfl, rfl⟩
  | true, a :: rest', h =>
    obtain ⟨cell, hcell, hrest⟩ := Option.bind_eq_some_iff.1 h
    cases hrest
    exact ⟨rfl, a, _, rfl, rfl, (byteFin_val hcell).trans (wordByte_zero a), wordByte_toNat a 1,
      wordHigh_toNat a⟩

theorem takePost_eq_some {present : Bool} {ws rest : List Word} {post : Option EventId}
    (h : takePost present ws = some (post, rest)) :
    rest = ws.drop (blockLength present 1)
      ∧ if present then ∃ a e, ws[0]? = some a ∧ post = some e ∧ e.val = a.toNat % 256
        else post = none := by
  match present, ws, h with
  | false, ws, h =>
    cases h
    exact ⟨rfl, rfl⟩
  | true, a :: rest', h =>
    obtain ⟨event, hevent, hrest⟩ := Option.bind_eq_some_iff.1 h
    cases hrest
    exact ⟨rfl, a, _, rfl, rfl, (byteFin_val hevent).trans (wordByte_zero a)⟩

/-! ### The level list (R29) -/

/-- A list that is mapped through has each member's image at its member's place. -/
theorem mapM_eq_some_getElem {α β : Type} {f : α → Option β} {l : List α} {l' : List β}
    (h : l.mapM f = some l') :
    l'.length = l.length ∧ ∀ k, ∀ hk : k < l.length, ∃ b, l'[k]? = some b ∧ f l[k] = some b := by
  induction l generalizing l' with
  | nil =>
    cases h
    exact ⟨rfl, fun k hk => absurd hk (Nat.not_lt_zero k)⟩
  | cons a l ih =>
    rw [List.mapM_cons] at h
    obtain ⟨b, hb, h⟩ := Option.bind_eq_some_iff.1 h
    obtain ⟨bs, hbs, h⟩ := Option.bind_eq_some_iff.1 h
    cases h
    obtain ⟨hlen, hget⟩ := ih hbs
    refine ⟨congrArg Nat.succ hlen, fun k hk => ?_⟩
    cases k with
    | zero => exact ⟨b, rfl, hb⟩
    | succ k => exact hget k (Nat.lt_of_succ_lt_succ hk)

/-- Entry k of a level list is the two bytes of half k % 2 of word k / 2 (R29). -/
theorem levelPairs_getElem (ws : List Word) {k : Nat} (h : k < (levelPairs ws).length) :
    ∃ w, ws[k / 2]? = some w
      ∧ (levelPairs ws)[k] = (wordByte w (2 * (k % 2)), wordByte w (2 * (k % 2) + 1)) := by
  induction ws generalizing k with
  | nil => exact absurd h (Nat.not_lt_zero k)
  | cons w ws ih =>
    match k, h with
    | 0, _ => exact ⟨w, rfl, rfl⟩
    | 1, _ => exact ⟨w, rfl, rfl⟩
    | k + 2, h =>
      have hd : (k + 2) / 2 = k / 2 + 1 := by omega
      have hm : (k + 2) % 2 = k % 2 := by omega
      rw [hd, hm]
      exact ih (k := k) (by simpa [levelPairs] using h)

/-- A half of a word holds a channel in its lower byte and a level in its upper one (R29). -/
theorem wordByte_half (w : Word) (i : Nat) :
    (wordByte w (2 * i)).toNat = w.toNat / 65536 ^ i % 256
      ∧ (wordByte w (2 * i + 1)).toNat = w.toNat / 65536 ^ i / 256 % 256 := by
  have hlow : 2 ^ (8 * (2 * i)) = 65536 ^ i := by rw [← Nat.mul_assoc, Nat.pow_mul]
  rw [wordByte_toNat, wordByte_toNat, Nat.mul_succ, Nat.pow_add, hlow, Nat.div_div_eq_div_mul]
  exact ⟨rfl, rfl⟩

theorem takeLevels_eq_some {count : Nat} {ws : List Word} {levels : List (Chan × Byte)}
    (hlen : (count + 1) / 2 ≤ ws.length) (h : takeLevels count ws = some levels) :
    levels.length = count
      ∧ ∀ k, k < count → ∃ w ch level, ws[k / 2]? = some w ∧ levels[k]? = some (ch, level)
          ∧ ch.val = w.toNat / 65536 ^ (k % 2) % 256
          ∧ level.toNat = w.toNat / 65536 ^ (k % 2) / 256 % 256 := by
  have hcount : ((levelPairs ws).take count).length = count := by
    rw [List.length_take, levelPairs_length]
    omega
  obtain ⟨hl, hget⟩ := mapM_eq_some_getElem h
  refine ⟨hl.trans hcount, fun k hk => ?_⟩
  obtain ⟨e, he, hf⟩ := hget k (hk.trans_eq hcount.symm)
  obtain ⟨ch, hch, rfl⟩ := Option.map_eq_some_iff.1 hf
  rw [List.getElem_take] at hch he
  obtain ⟨w, hw, hpair⟩ := levelPairs_getElem ws (k := k) (by rw [levelPairs_length]; omega)
  rw [hpair] at hch he
  obtain ⟨hlow, hhigh⟩ := wordByte_half w (k % 2)
  exact ⟨w, ch, _, hw, he, (byteFin_val hch).trans hlow, hhigh⟩

/-! ### The whole record (R36, R37) -/

/-- A record that decodes has the probed lead word first, and its blocks decode (R36). -/
theorem decodeRecord_eq_ok {c : Nat} {lead : Word} {words : List Word} {cue : Cue}
    (h : decodeRecord c lead words = .ok cue) :
    lead ≠ blankWord ∧ ∃ rest, words = lead :: rest ∧ decodeBlocks c lead rest = some cue := by
  match words with
  | [] => cases h
  | w :: rest =>
    by_cases hb : w = blankWord
    · rw [hb, decodeRecord_blank] at h
      cases h
    by_cases hw : w = lead
    · subst hw
      rw [decodeRecord_lead c rest hb] at h
      refine ⟨hb, rest, rfl, ?_⟩
      cases hd : decodeBlocks c w rest with
      | none =>
        rw [hd] at h
        cases h
      | some cue' =>
        rw [hd] at h
        cases h
        rfl
    · rw [decodeRecord_other c rest hb hw] at h
      cases h

/-- The blocks of a record that decode, each taken from the words that the one before it leaves. -/
theorem decodeBlocks_eq_some {c : Nat} {lead : Word} {rest : List Word} {cue : Cue}
    (h : decodeBlocks c lead rest = some cue) :
    ∃ second ws wsLoop wsPost wsLevels, rest = second :: ws
      ∧ takeWait (lead.getLsbD 4) ws = some (cue.wait, wsLoop)
      ∧ takeLoop (lead.getLsbD 5) wsLoop = some (cue.loop, wsPost)
      ∧ takePost (lead.getLsbD 6) wsPost = some (cue.post, wsLevels)
      ∧ takeLevels (leadCount lead) wsLevels = some cue.levels
      ∧ cue.releaseOthers = lead.getLsbD 7 ∧ cue.priority = leadPriority lead
      ∧ cue.fade = leadFade lead ∧ cue.hold = (wordLow second).toNat
      ∧ cue.next = wordHigh second := by
  match rest with
  | [] => cases h
  | second :: ws =>
    obtain ⟨⟨wait, wsLoop⟩, hwait, h⟩ := Option.bind_eq_some_iff.1 h
    obtain ⟨⟨loop, wsPost⟩, hloop, h⟩ := Option.bind_eq_some_iff.1 h
    obtain ⟨⟨post, wsLevels⟩, hpost, h⟩ := Option.bind_eq_some_iff.1 h
    obtain ⟨levels, hlevels, h⟩ := Option.bind_eq_some_iff.1 h
    cases h
    exact ⟨second, ws, wsLoop, wsPost, wsLevels, rfl, hwait, hloop, hpost, hlevels,
      rfl, rfl, rfl, rfl, rfl⟩

/-- What stands behind a record's first two words and n more. -/
theorem getElem?_drop_record (lead second : Word) (ws : List Word) (n i : Nat) :
    (ws.drop n)[i]? = (lead :: second :: ws)[2 + n + i]? := by
  rw [List.getElem?_drop, Nat.add_assoc, Nat.add_comm 2]
  rfl

/-- The words of a record behind its first two: its blocks, then its level list (R25). -/
theorem length_of_cueLength {lead second : Word} {ws : List Word}
    (h : (lead :: second :: ws).length = cueLength lead) :
    ws.length = blockLength (lead.getLsbD 4) 2 + blockLength (lead.getLsbD 5) 1
      + blockLength (lead.getLsbD 6) 1 + (leadCount lead + 1) / 2 := by
  rw [cueLength_eq, ← leadCount_eq, List.length_cons, List.length_cons] at h
  unfold blockLength
  omega

/-- Settles O24. -/
theorem decodedCuesHoldTheirFields : Obligations.DecodedCuesHoldTheirFields := by
  intro c lead words cue hlen h iLoop iPost iLevels
  obtain ⟨hblank, rest, rfl, hblocks⟩ := decodeRecord_eq_ok h
  obtain ⟨second, ws, wsLoop, wsPost, wsLevels, rfl, htakeWait, htakeLoop, htakePost, htakeLevels,
    hothers, hpriority, hfade, hhold, hnext⟩ := decodeBlocks_eq_some hblocks
  obtain ⟨rfl, hwait⟩ := takeWait_eq_some htakeWait
  obtain ⟨rfl, hloop⟩ := takeLoop_eq_some htakeLoop
  obtain ⟨rfl, hpost⟩ := takePost_eq_some htakePost
  simp only [List.drop_drop] at hpost htakeLevels
  have hbehind := length_of_cueLength hlen
  obtain ⟨hcount, hlevels⟩ := takeLevels_eq_some (by rw [List.length_drop]; omega) htakeLevels
  simp only [getElem?_drop_record lead second ws] at hloop hpost hlevels
  refine ⟨rfl, hblank, decodeRecord_word h, hfade.trans (leadFade_eq lead), ?_, hothers,
    hcount.trans (leadCount_eq lead), ⟨second, rfl, ?_, ?_⟩, hwait, hloop, ?_, fun k hk => ?_⟩
  · rw [hpriority, leadPriority_val]
  · rw [hhold, wordLow_toNat]
  · rw [hnext, wordHigh_toNat]
  · simpa only [iPost, iLoop, Nat.add_assoc, Nat.add_zero] using hpost
  · simpa only [iLevels, iPost, iLoop, Nat.add_assoc] using hlevels k (hcount ▸ hk)

end Sys2Proof.Machine
end

section
/-! Whatever the offers, the notices and the posts keep, and the changes of TRIG's own state and of the
reports keep, is kept by every examination, firing and phase report. A delivery is asked for here only as part
of an offer, that is, where its context's answer is to take it (R155 to R160, R198). -/

namespace Sys2Proof.Machine

/-- A property of states that TRIG's elementary acts keep, its deliveries being those of offers. -/
structure OfferKeeps (P : State → Prop) : Prop where
  offer : ∀ {s}, P s → ∀ r p, P (s.offer r p).2.2
  notify : ∀ {s}, P s → ∀ n, P (s.notify n)
  post : ∀ {s}, P s → ∀ e, P (s.post e)
  free : ∀ {s}, P s → ∀ n, P { s with free := n }
  reports : ∀ {s}, P s → ∀ l, P { s with reports := l }
  trig : ∀ {s}, P s → ∀ u, P { s with trig := u }

namespace OfferKeeps

variable {P : State → Prop} (h : OfferKeeps P) {s : State}
include h

theorem serveFixed (hs : P s) (r : DeliveryRecord) : P (s.serveFixed r).2.2 := by
  refine List.foldlRecOn (motive := fun z : DeliveryRecord × State => P z.2) allCtx _ hs
    fun z hz p _ => ?_
  split
  · exact h.offer hz _ p
  · exact hz

theorem serveKnown (ps : List Ctx) {s : State} (hs : P s) (r : DeliveryRecord) (ph : Phase) :
    P (s.serveKnown r ph ps).2.2 := by
  induction ps generalizing s r with
  | nil => exact hs
  | cons p ps ih =>
    have ho := h.offer hs r p
    unfold State.serveKnown
    split
    · split
      · next he => rw [he] at ho; exact ho
      · next he => rw [he] at ho; exact ho
      · next he => rw [he] at ho; exact ih ho _
    · exact ih hs r

theorem serveFirstIdle (hs : P s) (r : DeliveryRecord) : P (s.serveFirstIdle r).2.2 := by
  have h1 := h.serveKnown allCtx hs r .faulted
  unfold State.serveFirstIdle
  split
  · next he => rw [he] at h1; exact h1
  · next he => rw [he] at h1; exact h1
  · next r1 _ he =>
    rw [he] at h1
    have h2 := h.serveKnown allCtx h1 r1 .idle
    split <;> next hk => rw [hk] at h2; exact h2

theorem serveRecord (hs : P s) (r : DeliveryRecord) : P (s.serveRecord r).2.2 := by
  unfold State.serveRecord
  split
  · exact h.serveFixed hs r
  · exact h.serveFirstIdle hs r

theorem act (hs : P s) (src : Source) (f : Firing) : P (s.act src f) := by
  unfold State.act State.markCoalesced State.markMissed
  split
  · exact h.post hs _
  · exact h.trig hs _
  · cases src <;> exact h.trig hs _
  · cases src <;> exact h.notify (h.trig hs _) _

theorem testInWalk (hs : P s) (l : Line) : P (s.testInWalk l) := by
  unfold State.testInWalk
  split
  · exact h.act hs _ _
  · exact hs

theorem removeRecord {test : State → Line → State} (ht : ∀ s l, P s → P (test s l)) (hs : P s)
    (r : DeliveryRecord) : P (State.removeRecord test s r) := by
  have hr : P (s.restAtRemoval r) := by
    unfold State.restAtRemoval
    split
    · split
      · exact h.trig hs _
      · exact hs
    · exact hs
  exact foldl_keeps ht _ (h.trig hr _)

theorem walk (k i : Nat) {s : State} (hs : P s) : P (State.walk k i s) := by
  induction k generalizing i s with
  | zero => exact hs
  | succ k ih =>
    unfold State.walk
    split
    · exact hs
    · next r _ =>
      split
      · exact ih _ hs
      · have h1 := h.serveRecord hs r
        dsimp only
        split
        · exact ih _ (h.removeRecord (fun _ l ht => h.testInWalk ht l) (h.trig h1 _) _)
        · exact ih _ (h.trig h1 _)

theorem walkOnce (hs : P s) : P s.walkOnce.1 :=
  h.reports (h.walk walkBound 0 (h.reports hs [])) _

theorem takeReportWith {ex : State → List Report → State} (he : ∀ s o, P s → P (ex s o)) (hs : P s)
    (r : Report) (owed : List Report) : P (s.takeReportWith ex r owed) := by
  unfold State.takeReportWith
  dsimp only
  split
  · refine he _ _ (List.foldlRecOn (motive := fun z : State × List Report => P z.1) _ _
      (h.trig (h.trig hs _) _) fun z hz l _ => ?_)
    unfold State.testOwing
    split
    · dsimp only
      split
      · exact he _ _ (h.act hz _ _)
      · exact h.act hz _ _
    · exact hz
  · exact he _ _ (h.trig hs _)

theorem takeOwed (k : Nat) {s : State} (hs : P s) (owed : List Report) :
    P (State.takeOwed k s owed) := by
  induction k generalizing s owed with
  | zero => exact h.reports hs _
  | succ k ih =>
    cases owed with
    | nil => exact hs
    | cons r rs =>
      have he : ∀ (t : State) (o : List Report), P t →
          P (State.takeOwed k t.walkOnce.1 (o ++ t.walkOnce.2)) :=
        fun t o ht => ih (h.walkOnce ht) _
      unfold State.takeOwed
      dsimp only
      split
      · exact h.takeReportWith he (h.reports hs _) _ _
      · exact h.takeReportWith he hs _ _

theorem examineOwing (hs : P s) (owed : List Report) : P (s.examineOwing owed) :=
  h.takeOwed _ (h.walkOnce hs) _

theorem examine (hs : P s) : P s.examine := h.examineOwing hs []

theorem fire (hs : P s) (src : Source) (f : Firing) : P (s.fire src f) := by
  unfold State.fire
  split
  · exact h.examine (h.act hs src f)
  · exact h.act hs src f

theorem testLevel (hs : P s) (l : Line) : P (s.testLevel l) := by
  unfold State.testLevel
  split
  · exact h.fire hs _ _
  · exact hs

theorem takeReport (hs : P s) (r : Report) : P (s.takeReport r) :=
  h.takeReportWith (fun _ o ht => h.examineOwing ht o) hs r []

theorem anyOrder {α : Type} (hs : P s) (l : List α) : P (s.anyOrder l).2 := by
  unfold State.anyOrder
  split
  · exact hs
  · exact hs
  · exact h.free hs _

theorem offerChange (hs : P s) (l : Line) (high : Bool) : P (s.offerChange l high) :=
  foldl_keeps (P := P) (fun _ _ ht => h.fire (h.notify ht _) _ _) _
    (h.anyOrder (h.trig (h.trig hs _) _) _)

theorem entryChange (hs : P s) (l : Line) : P (s.entryChange l) := by
  unfold State.entryChange
  dsimp only
  split
  · split
    · exact h.fire hs _ _
    · exact hs
  · split
    · exact h.testLevel hs l
    · exact h.trig hs _

theorem acceptChange (hs : P s) (l : Line) (high : Bool) : P (s.acceptChange l high) := by
  have h1 : P (s.modLine l fun f => { f with high := high, run := 0 }) := h.trig hs _
  unfold State.acceptChange
  extract_lets s1 s2 s3
  have h2 : P s2 := by
    unfold s2
    split
    · exact h.notify h1 _
    · exact h1
  split
  · exact h.offerChange (h.entryChange h2 l) l high
  · exact h.entryChange h2 l

theorem takeFirstSample (hs : P s) (l : Line) (high : Bool) : P (s.takeFirstSample l high) :=
  h.testLevel (h.trig hs _) l

theorem expireRecord (hs : P s) (src : Source) : P (s.expireRecord src) := by
  unfold State.expireRecord
  split
  · exact hs
  · exact h.removeRecord (fun _ l ht => h.testLevel ht l) (h.notify hs _) _

theorem tickTrig (hs : P s) : P s.tickTrig :=
  foldl_keeps (P := P) (fun _ src ht => h.expireRecord ht src) _ (h.trig (h.trig (h.trig hs _) _) _)

end OfferKeeps

end Sys2Proof.Machine
end

section
/-! The held set is the set of the contexts that are PAUSED or FAULTED: what each operation of a context and
of TRIG makes of it (R58, R65, R94). -/

namespace Sys2Proof.Machine

/-- Whether a context's claims are held while it does this: it is PAUSED or FAULTED (R58, R65). -/
def Activity.holding : Activity → Bool
  | .paused _ _ => true
  | .faulted _ _ => true
  | _ => false

theorem holding_eq (a : Activity) : (a.phase == .paused || a.phase == .faulted) = a.holding := by
  cases a with
  | running cue at_ => cases at_ <;> rfl
  | _ => rfl

/-- The held set agrees with what context p is doing (R94). -/
def State.heldAt (s : State) (p : Ctx) : Prop := ctxIn p s.mix.held = (s.ctx p).activity.holding

theorem heldSound_iff (s : State) : s.heldSound ↔ ∀ p, s.heldAt p :=
  forall_congr' fun p => by rw [State.heldAt, ← holding_eq]; rfl

section
variable {s t : State} {p : Ctx}

/-- What a context is doing and whether its claims are held decide it. -/
theorem State.heldAt.congr (h : s.heldAt p) (hc : (t.ctx p).activity = (s.ctx p).activity)
    (hm : t.mix.held = s.mix.held) : t.heldAt p := by
  rw [State.heldAt, hc, hm]
  exact h

theorem heldSound_congr (h : s.heldSound) (hc : ∀ p, (t.ctx p).activity = (s.ctx p).activity)
    (hm : t.mix.held = s.mix.held) : t.heldSound :=
  (heldSound_iff t).2 fun p => ((heldSound_iff s).1 h p).congr (hc p) hm

/-- A step that leaves the other contexts and their holds is judged at its own context. -/
theorem heldSound_of_own (h : s.heldSound) (hc : ∀ q, q ≠ p → t.ctx q = s.ctx q)
    (hh : ∀ q, q ≠ p → ctxIn q t.mix.held = ctxIn q s.mix.held) (hp : t.heldAt p) : t.heldSound := by
  refine (heldSound_iff t).2 fun q => ?_
  by_cases hq : q = p
  · exact hq ▸ hp
  · rw [State.heldAt, hc q hq, hh q hq]
    exact (heldSound_iff s).1 h q

theorem CtxStep.heldSound (hk : CtxStep p s t) (h : s.heldSound) (hp : t.heldAt p) : t.heldSound :=
  heldSound_of_own h hk.ctx hk.held hp

/-- A context that does something else has no claim held. -/
theorem unheld_of_activity (h : s.heldSound) {a : Activity} (ha : (s.ctx p).activity = a)
    (hn : a.holding = false) : ctxIn p s.mix.held = false := by
  rw [(heldSound_iff s).1 h p, ha, hn]

theorem MixOnly.heldSound (hk : MixOnly s t) (hm : t.mix.held = s.mix.held) (h : s.heldSound) :
    t.heldSound :=
  heldSound_congr h (fun p => by rw [hk.ctx]) hm

theorem heldSound_notify (h : s.heldSound) (n : Notice) : (s.notify n).heldSound :=
  heldSound_congr h (fun p => by rw [notify_ctx]) (by rw [notify_eq_link])

/-! ### A context whose claims are not held -/

theorem heldAt_enter (hu : ctxIn p s.mix.held = false) {a : Activity} (ha : a.holding = false) :
    (s.enter p a).heldAt p := by
  simp [State.heldAt, State.enter, hu, ha]

theorem heldAt_enterIdle (hu : ctxIn p s.mix.held = false) (way : Way) :
    (s.enterIdle p way).heldAt p := by
  rw [State.heldAt, enterIdle_ctx, if_pos rfl, enterIdle_mix, hu]
  rfl

/-- FAULTED holds the context's claims (R65). -/
theorem heldAt_enterFaulted (s : State) (p : Ctx) (reason : FaultReason) (word : Nat) :
    (s.enterFaulted p reason word).heldAt p := by
  rw [State.heldAt, enterFaulted_ctx, if_pos rfl, enterFaulted_mix, ctxIn_or_ctxBit]
  simp [Activity.holding]

/-- PAUSED holds the context's claims (R58). -/
theorem heldAt_enter_paused (s : State) (p : Ctx) (cue : Cue) (at_ : CuePhase) :
    ((s.enter p (.paused cue at_)).holdClaims p).heldAt p := by
  show ctxIn p (s.mix.held ||| ctxBit p) = _
  rw [ctxIn_or_ctxBit]
  simp [State.enter, Activity.holding]

theorem heldAt_arbitrate (h : s.heldAt p) : s.arbitrate.heldAt p :=
  h.congr (activity_arbitrate s p) (by rw [arbitrate_eq_modStore]; rfl)

theorem heldAt_resolved (hu : ctxIn p s.mix.held = false) {a : Activity}
    (ha : ∀ cue at_, a ≠ .paused cue at_) : (s.resolved p a).heldAt p := by
  cases a with
  | idle => exact heldAt_enterIdle hu _
  | faulted reason word => exact heldAt_enterFaulted s p reason word
  | paused cue at_ => exact absurd rfl (ha cue at_)
  | _ => simp [State.heldAt, State.resolved, hu, Activity.holding]

theorem fieldActivity_ne_paused (field : Half) (steps : Nat) (pp : Bool) (cue : Cue) (at_ : CuePhase) :
    fieldActivity field steps pp ≠ .paused cue at_ := by
  unfold fieldActivity
  split_ifs <;> simp

theorem linkStepActivity_ne_paused (word : Word) (w steps : Nat) (pp : Bool) (cue : Cue)
    (at_ : CuePhase) : linkStepActivity word w steps pp ≠ .paused cue at_ := by
  unfold linkStepActivity
  split_ifs
  iterate 3 simp
  · exact fieldActivity_ne_paused _ _ _ cue at_
  iterate 2 simp

theorem probeActivity_ne_paused (lead : Word) (c steps : Nat) (pp : Bool) (cue : Cue)
    (at_ : CuePhase) : probeActivity lead c steps pp ≠ .paused cue at_ := by
  unfold probeActivity
  split <;> simp

theorem heldAt_enterFetch (hu : ctxIn p s.mix.held = false) (field : Half) :
    (s.enterFetch p field).heldAt p :=
  examineField_of_resolved (P := fun u => u.heldAt p) (fun _ => heldAt_arbitrate)
    (heldAt_resolved (s := s.report p .fetch) hu (fieldActivity_ne_paused _ _ _))

theorem heldAt_completeNormally (hu : ctxIn p s.mix.held = false) (cue : Cue) :
    (s.completeNormally p cue).heldAt p := by
  unfold State.completeNormally
  split
  · exact heldAt_enterFetch hu _
  · refine heldAt_enterFetch ?_ _
    exact hu

theorem heldAt_completeFade (hu : ctxIn p s.mix.held = false) (cue : Cue) :
    (s.completeFade p cue).heldAt p := by
  have he : ∀ at_, (s.enter p (.running cue at_)).heldAt p := fun _ => heldAt_enter hu rfl
  have hc : ∀ at_, ((s.enter p (.running cue at_)).completeNormally p cue).heldAt p :=
    fun at_ => heldAt_completeNormally (s := s.enter p (.running cue at_)) hu cue
  unfold State.completeFade
  dsimp only
  split
  · split
    · exact hc _
    · exact he _
  · split
    · exact he _
    · split
      · exact hc _
      · exact he _

theorem heldAt_enterFade (hu : ctxIn p s.mix.held = false) (cue : Cue) (ticks : Nat) :
    (s.enterFade p cue ticks).heldAt p := by
  unfold State.enterFade
  dsimp only
  split
  · exact heldAt_completeFade (s := s.enter p (.running cue (.fade ticks))) hu cue
  · exact heldAt_enter hu rfl

/-! ### Each operation of a context -/

theorem heldSound_enterFetch (h : s.heldSound) (hu : ctxIn p s.mix.held = false) (field : Half) :
    (s.enterFetch p field).heldSound :=
  (phaseStep_enterFetch p s field).heldSound h (heldAt_enterFetch hu field)

theorem heldSound_completeNormally (h : s.heldSound) (hu : ctxIn p s.mix.held = false) (cue : Cue) :
    (s.completeNormally p cue).heldSound :=
  (phaseStep_completeNormally p s cue).heldSound h (heldAt_completeNormally hu cue)

theorem heldSound_completeFade (h : s.heldSound) (hu : ctxIn p s.mix.held = false) (cue : Cue) :
    (s.completeFade p cue).heldSound :=
  (phaseStep_completeFade p s cue).heldSound h (heldAt_completeFade hu cue)

theorem heldSound_startCue (h : s.heldSound) (hu : ctxIn p s.mix.held = false) (cue : Cue) (pp : Bool) :
    (s.startCue p cue pp).heldSound := by
  have hk := phaseStep_startCue p s cue pp
  have hh := cueOpened_held s p cue pp
  refine heldSound_of_own h (p := p) (fun q hq => ?_) (fun q hq => ?_) ?_
  · rw [hk.ctx q hq, cueOpened_ctx, if_neg hq]
  · rw [hk.held q hq, hh]
  · rw [startCue_eq]
    split
    · exact heldAt_enter_paused _ p cue _
    · exact heldAt_enterFade (by rw [hh]; exact hu) cue _

/-- A completed read, whatever its context makes of it (R33, R35, R36). -/
theorem heldSound_takeWords (h : s.heldSound) (hu : ctxIn p s.mix.held = false) (kind : ReadKind)
    (w steps : Nat) (pp : Bool) : (s.takeWords p kind w steps pp).arbitrate.heldSound := by
  have hr : ∀ a, (∀ cue at_, a ≠ .paused cue at_) → (s.resolved p a).arbitrate.heldSound := fun a ha =>
    ((ctxStep_resolved p s a).trans (ctxStep_arbitrate p _)).heldSound h
      (heldAt_arbitrate (heldAt_resolved hu ha))
  cases kind with
  | linkStep =>
    rw [State.takeWords, takeLinkStep_arbitrate]
    exact hr _ (linkStepActivity_ne_paused _ _ _ _)
  | probe =>
    rw [State.takeWords, takeProbe_arbitrate]
    exact hr _ (probeActivity_ne_paused _ _ _ _)
  | record lead =>
    have ha : ∀ u : State, u.heldSound → u.arbitrate.heldSound := fun u hs =>
      heldSound_congr hs (activity_arbitrate u) (by rw [arbitrate_eq_modStore]; rfl)
    refine ha _ ?_
    unfold State.takeWords State.takeRecord
    dsimp only
    split
    · exact (ctxStep_enterFaulted p s _ _).heldSound h (heldAt_enterFaulted s p _ _)
    · exact heldSound_startCue h hu _ pp

theorem heldSound_completeFetch (h : s.heldSound) (p : Ctx) (kind : ReadKind) (w : Nat) (live : Bool) :
    (s.completeFetch p kind w live).heldSound := by
  have hf : s.freed.heldSound := h
  have ha : s.freed.arbitrate.heldSound :=
    heldSound_congr h (activity_arbitrate s.freed) (by rw [arbitrate_eq_modStore]; rfl)
  cases live with
  | false => exact ha
  | true =>
    cases hp : (s.ctx p).activity with
    | fetch res pp =>
      rw [completeFetch_live hp]
      exact heldSound_takeWords hf (unheld_of_activity h hp rfl) kind w _ pp
    | _ =>
      unfold State.completeFetch
      rw [hp]
      exact ha

theorem heldSound_takePost (h : s.heldSound) (p : Ctx) (e : EventId) : (s.takePost p e).heldSound := by
  have h1 : (s.modCtx p fun c => c.arrive e).heldSound :=
    heldSound_congr h (fun q => by rw [State.modCtx_ctx]; split <;> simp_all [Context.arrive]) rfl
  unfold State.takePost
  dsimp only
  split
  · next ha =>
    have hu := unheld_of_activity h ha rfl
    split
    · exact heldSound_completeNormally h1 hu _
    · exact h1
  · exact h1

theorem heldSound_endCount (h : s.heldSound) (p : Ctx) : (s.endCount p).heldSound := by
  unfold State.endCount
  split
  · next ha => exact heldSound_completeFade h (unheld_of_activity h ha rfl) _
  · next ha => exact heldSound_completeNormally h (unheld_of_activity h ha rfl) _
  · next ha => exact heldSound_enterFetch h (unheld_of_activity h ha rfl) _
  · exact h

/-- A GO that is taken finds no claim held (R55, R56). -/
theorem heldSound_takeGo (h : s.heldSound) {pointer : Option Half}
    (hv : (s.ctx p).goVerdict pointer = .take) : (s.takeGo p pointer).heldSound := by
  have hu : ctxIn p s.mix.held = false := by
    refine unheld_of_activity h rfl ?_
    unfold Context.goVerdict at hv
    cases ha : (s.ctx p).activity <;> simp_all [Activity.holding]
  unfold State.takeGo
  split
  · exact heldSound_enterFetch h hu _
  · exact heldSound_completeNormally h hu _
  · exact heldSound_enterFetch h hu _

/-- STOP ends the hold and leads to IDLE (R60, R93). -/
theorem heldSound_takeStop (h : s.heldSound) (p : Ctx) : (s.takeStop p).heldSound := by
  refine (ctxStep_takeStop p s).heldSound h ?_
  have hu : ctxIn p (s.removeClaims p).mix.held = false := by
    rw [held_removeClaims, ctxIn_ctxOut]
    simp
  by_cases ha : (s.ctx p).activity = .idle
  · rw [takeStop_of_idle ha, State.heldAt, hu, (mixOnly_removeClaims s p).ctx, ha]
    rfl
  · obtain ⟨port, ht, -⟩ := takeStop_of_active ha
    rw [ht]
    refine heldAt_enterIdle ?_ _
    exact hu

theorem heldSound_takeClaimsGone (h : s.heldSound) (p : Ctx) : (s.takeClaimsGone p).heldSound := by
  unfold State.takeClaimsGone
  split
  · next ha =>
    exact (ctxStep_enterIdle p s _).heldSound h (heldAt_enterIdle (unheld_of_activity h ha rfl) _)
  · exact h

theorem heldSound_releaseFrom (h : s.heldSound) (p : Ctx) (fade : Nat) :
    (s.releaseFrom p fade).heldSound := by
  have h1 : (s.releaseAll p fade).heldSound :=
    (mixOnly_releaseAll s p fade).heldSound (by rw [State.releaseAll, held_updateClaims]) h
  unfold State.releaseFrom
  dsimp only
  split
  · exact h1
  · exact heldSound_takeClaimsGone h1 p

/-- RELEASE ends the hold of a context that is PAUSED or FAULTED (R61). -/
theorem heldSound_takeRelease (h : s.heldSound) (p : Ctx) (fade : Nat) :
    (s.takeRelease p fade).heldSound := by
  have henter : ∀ u : State, CtxStep p s u → ctxIn p u.mix.held = false →
      ((u.enter p .releasing).releaseFrom p fade).heldSound := fun u hk hu =>
    heldSound_releaseFrom ((hk.trans (ctxStep_enter p u _)).heldSound h (heldAt_enter hu rfl)) p fade
  have hend : ctxIn p (s.endHold p).mix.held = false := by
    rw [held_endHold, ctxIn_ctxOut]
    simp
  unfold State.takeRelease
  split
  · next ha =>
    split
    · exact henter s (.refl p s) (unheld_of_activity h ha rfl)
    · exact h
  · exact h
  · next ha => exact henter s (.refl p s) (unheld_of_activity h ha rfl)
  · exact henter _ (ctxStep_endHold p s) hend
  · exact heldSound_releaseFrom h p fade
  · exact henter _ (ctxStep_endHold p s) hend

/-- RESUME ends the hold (R59). -/
theorem heldSound_takeResume (h : s.heldSound) (p : Ctx) (cue : Cue) (saved : CuePhase) :
    (s.takeResume p cue saved).heldSound := by
  have hu : ctxIn p (s.endHold p).mix.held = false := by
    rw [held_endHold, ctxIn_ctxOut]
    simp
  have hfade : ∀ n, ((s.endHold p).enterFade p cue n).heldSound := fun n =>
    ((ctxStep_endHold p s).trans (phaseStep_enterFade p _ cue n).toCtxStep).heldSound h
      (heldAt_enterFade hu cue n)
  have henter : ∀ at_, ((s.endHold p).enter p (.running cue at_)).heldSound := fun at_ =>
    ((ctxStep_endHold p s).trans (ctxStep_enter p _ _)).heldSound h (heldAt_enter hu rfl)
  have hcomplete : ∀ at_, (((s.endHold p).enter p (.running cue at_)).completeNormally p cue).heldSound :=
    fun at_ => heldSound_completeNormally (henter at_) hu cue
  unfold State.takeResume
  dsimp only
  split
  · exact hfade _
  · split
    · exact hcomplete _
    · exact henter _
  · split
    · exact hcomplete _
    · exact henter _
  · exact henter _

/-- PAUSE from FADE, HOLD or WAIT (R57, R58). -/
theorem heldSound_pause (h : s.heldSound) (p : Ctx) (cue : Cue) (at_ : CuePhase) :
    ((s.enter p (.paused cue at_)).holdClaims p).heldSound :=
  ((ctxStep_enter p s _).trans (ctxStep_holdClaims p _)).heldSound h (heldAt_enter_paused s p cue at_)

/-! ### TRIG -/

/-- A delivery that its context's answer takes (R155). -/
theorem heldSound_deliver (h : s.heldSound) {d : Delivery} (ha : (s.ctx p).answer d = .taken) :
    (s.deliver p d).heldSound := by
  cases d with
  | go pointer =>
    refine heldSound_takeGo h ?_
    simp only [Context.answer] at ha
    split at ha <;> first | assumption | cases ha
  | release fade => exact heldSound_takeRelease h p fade
  | stop => exact heldSound_takeStop h p

/-- An offer keeps what its delivery, where it is taken, and its notice keep. -/
theorem heldSound_offer (h : s.heldSound) (r : DeliveryRecord) (p : Ctx) :
    (s.offer r p).2.2.heldSound := by
  have hj : ∀ {t : State} (src : Source), t.heldSound → (t.joinHeldBy src p).heldSound := by
    intro t src ht
    unfold State.joinHeldBy
    split
    · split <;> exact ht
    · exact ht
  unfold State.offer
  split
  · next ha =>
    have hd := heldSound_deliver h ha
    dsimp only
    split
    · exact hj _ hd
    · exact hd
  · exact h
  · exact heldSound_notify h _

end

/-- TRIG keeps the held set with the phases: only the deliveries that are taken touch either. -/
theorem offerKeeps_heldSound : OfferKeeps State.heldSound where
  offer h r p := heldSound_offer h r p
  notify h n := heldSound_notify h n
  post h _ := h
  free h _ := h
  reports h _ := h
  trig h _ := h

end Sys2Proof.Machine
end

section
/-! Every step keeps the part still before RUNNING, and the held set with the phases (O60). -/

namespace Sys2Proof.Machine

/-! ### The part before RUNNING -/

/-- Nothing moves: what a reset and STARTING keep still (R87, R108, R129, R163, R164, R171, R195). -/
structure State.Still (s : State) : Prop where
  activity : ∀ p : Ctx, (s.ctx p).activity = .idle
  port : s.store.port = none
  linkOp : s.store.linkOp = none
  owed : s.owed = { play := 0, mix := 0, trig := 0, taken := 0 }
  posts : s.posts = []
  reports : s.reports = []
  queue : s.trig.queue = []
  sampled : ∀ l : Line, (s.trig.lines[l]).sampled = false
  notices : s.link.notices = 0
  stamp : s.clk.stamp = 0
  resetPending : s.clk.resetPending = false
  held : s.mix.held = 0
  curves : ∀ k : Fin 3, s.mix.curves[k] = none
  channels : ∀ ch : Chan, (s.mixCh ch).claims = .empty ∧ (s.mixCh ch).level = 0
    ∧ (s.mixCh ch).dutyLast = 0 ∧ (s.outCh ch).buffered.duty = 0

theorem quietBeforeRunning_iff (s : State) : s.quietBeforeRunning ↔ (s.isRunning = false → s.Still) :=
  imp_congr_right fun _ =>
    ⟨fun ⟨h1, h2, h3, h4, h5, h6, h7, h8, h9, h10, h11, h12, h13, h14⟩ =>
      ⟨h1, h2, h3, h4, h5, h6, h7, h8, h9, h10, h11, h12, h13, h14⟩,
    fun ⟨h1, h2, h3, h4, h5, h6, h7, h8, h9, h10, h11, h12, h13, h14⟩ =>
      ⟨h1, h2, h3, h4, h5, h6, h7, h8, h9, h10, h11, h12, h13, h14⟩⟩

/-- Before RUNNING no context is PAUSED or FAULTED, and no claim is held. -/
theorem State.Still.heldSound {s : State} (h : s.Still) : s.heldSound := by
  refine (heldSound_iff s).2 fun p => ?_
  rw [State.heldAt, h.held, h.activity p]
  revert p
  decide

/-- A change of the link that queues no notice. -/
structure LinkStill (s t : State) : Prop where
  eq : t = { s with link := t.link }
  notices : t.link.notices ≤ s.link.notices

theorem LinkStill.refl (s : State) : LinkStill s s := ⟨rfl, le_refl _⟩

theorem LinkStill.trans {s t u : State} (h : LinkStill s t) (k : LinkStill t u) : LinkStill s u :=
  ⟨by rw [k.eq, h.eq], k.notices.trans h.notices⟩

theorem LinkStill.still {s t : State} (h : LinkStill s t) (hs : s.Still) : t.Still := by
  have hn : t.link.notices = 0 := Nat.le_zero.1 (hs.notices ▸ h.notices)
  rw [h.eq]
  exact { hs with notices := hn }

theorem linkStill_reply (s : State) (x : Reply) : LinkStill s (s.reply x) :=
  ⟨rfl, by rw [reply_notices]⟩

/-- A change of the link beside its outbound queue. -/
theorem linkStill_modLink (s : State) {f : Link → Link} (h : (f s.link).outbound = s.link.outbound) :
    LinkStill s (s.modLink f) :=
  ⟨rfl, by simp [Link.notices, h]⟩

/-- Before RUNNING every request is refused (R182). -/
theorem linkStill_bringIntoService {s : State} (hr : s.isRunning = false) (f : InFrame) :
    LinkStill s (s.bringIntoService f) := by
  cases f with
  | refused why kind => exact linkStill_reply s _
  | request r =>
    have hf : (s.modLink fun l => { l with service := some (.request r) }).isRunning = false := hr
    unfold State.bringIntoService State.serve
    dsimp only
    rw [if_neg (by rw [hf]; exact Bool.false_ne_true)]
    exact linkStill_reply s _

theorem linkStill_frameArrives {s : State} (hr : s.isRunning = false) (f : InFrame) :
    LinkStill s (s.frameArrives f) := by
  unfold State.frameArrives
  split
  · exact .refl s
  · split
    · exact linkStill_modLink s rfl
    · split
      · exact linkStill_bringIntoService hr f
      · exact linkStill_modLink s rfl

/-- All that a character does: nothing, a change of the receiver, or the arrival of a frame (R177 to R180). -/
theorem takeCharacter_cases (s : State) (b : Byte) (stop : Bool) :
    s.takeCharacter b stop = s ∨ (∃ v, s.takeCharacter b stop = s.setReceiver v)
      ∨ ∃ f, s.takeCharacter b stop = (s.setReceiver .hunt).frameArrives f := by
  unfold State.takeCharacter State.takeByte State.truncate
  split
  · exact .inl rfl
  · split
    · split
      · split
        · exact .inr (.inl ⟨_, rfl⟩)
        · exact .inl rfl
      · split
        · exact .inr (.inr ⟨_, rfl⟩)
        · exact .inr (.inl ⟨_, rfl⟩)
      · split <;> exact .inr (.inl ⟨_, rfl⟩)
      · split <;> exact .inr (.inl ⟨_, rfl⟩)
      · exact .inr (.inr ⟨_, rfl⟩)
    · split
      · exact .inr (.inr ⟨_, rfl⟩)
      · exact .inl rfl

theorem linkStill_setReceiver (s : State) (v : Receiver) : LinkStill s (s.setReceiver v) :=
  linkStill_modLink s rfl

theorem linkStill_truncate {s : State} (hr : s.isRunning = false) : LinkStill s s.truncate :=
  (linkStill_setReceiver s _).trans (linkStill_frameArrives (s := s.setReceiver .hunt) hr _)

theorem linkStill_takeCharacter {s : State} (hr : s.isRunning = false) (b : Byte) (stop : Bool) :
    LinkStill s (s.takeCharacter b stop) := by
  rcases takeCharacter_cases s b stop with h | ⟨v, h⟩ | ⟨f, h⟩
  · rw [h]; exact .refl s
  · exact h ▸ linkStill_setReceiver s v
  · exact h ▸ (linkStill_setReceiver s _).trans
      (linkStill_frameArrives (s := s.setReceiver .hunt) hr f)

/-! ### What commands keep -/

/-- The start-up phase and the soundness of the held set. -/
structure HoldKeeps (s t : State) : Prop where
  stage : t.clk.stage = s.clk.stage
  held : s.heldSound → t.heldSound

theorem HoldKeeps.refl (s : State) : HoldKeeps s s := ⟨rfl, id⟩

theorem HoldKeeps.trans {s t u : State} (h : HoldKeeps s t) (k : HoldKeeps t u) : HoldKeeps s u :=
  ⟨k.stage.trans h.stage, k.held ∘ h.held⟩

theorem HoldKeeps.foldl {α : Type} {f : State → α → State} (h : ∀ s a, HoldKeeps s (f s a))
    (l : List α) (s : State) : HoldKeeps s (l.foldl f s) :=
  foldl_keeps (P := HoldKeeps s) (fun t a ht => ht.trans (h t a)) l (.refl s)

theorem Keeps.holdKeeps {s t : State} (h : Keeps s t) (hh : s.heldSound → t.heldSound) :
    HoldKeeps s t :=
  ⟨by rw [h.clk], hh⟩

/-- A change of neither the stage, nor what a context is doing, nor the held set. -/
theorem HoldKeeps.of_same {s t : State} (hk : t.clk.stage = s.clk.stage)
    (hc : ∀ p, (t.ctx p).activity = (s.ctx p).activity) (hm : t.mix.held = s.mix.held) :
    HoldKeeps s t :=
  ⟨hk, fun h => heldSound_congr h hc hm⟩

theorem MixOnly.holdKeeps {s t : State} (h : MixOnly s t) (hm : t.mix.held = s.mix.held) :
    HoldKeeps s t :=
  .of_same (by rw [h.clk]) (fun p => by rw [h.ctx]) hm

theorem LinkStill.holdKeeps {s t : State} (h : LinkStill s t) : HoldKeeps s t :=
  .of_same (by rw [h.eq]) (fun p => by rw [h.eq]; rfl) (by rw [h.eq])

theorem holdKeeps_reply (s : State) (x : Reply) : HoldKeeps s (s.reply x) :=
  .of_same rfl (fun _ => rfl) rfl

theorem holdKeeps_refuse (s : State) (r : Request) (why : Reason) : HoldKeeps s (s.refuse r why) :=
  holdKeeps_reply s _

/-- What follows an ACK. -/
theorem HoldKeeps.of_ack {s t : State} {r : Request} (h : HoldKeeps (s.ack r) t) : HoldKeeps s t :=
  (holdKeeps_reply s _).trans h

theorem holdKeeps_notify (s : State) (n : Notice) : HoldKeeps s (s.notify n) :=
  (keeps_notify s n).toKeeps.holdKeeps fun h => heldSound_notify h n

theorem holdKeeps_arbitrate (s : State) : HoldKeeps s s.arbitrate := by
  rw [arbitrate_eq_modStore]
  exact .of_same rfl (fun _ => rfl) rfl

theorem holdKeeps_startLinkOp (s : State) (op : LinkOp) : HoldKeeps s (s.startLinkOp op) :=
  HoldKeeps.trans (t := s.modStore _) (.of_same rfl (fun _ => rfl) rfl) (holdKeeps_arbitrate _)

theorem holdKeeps_trig (s : State) (u : TriggerUnit) : HoldKeeps s { s with trig := u } :=
  .of_same rfl (fun _ => rfl) rfl

theorem holdKeeps_examine (s : State) : HoldKeeps s s.examine :=
  (keeps_examine s).holdKeeps offerKeeps_heldSound.examine

theorem holdKeeps_testLevel (s : State) (l : Line) : HoldKeeps s (s.testLevel l) :=
  (keeps_testLevel s l).holdKeeps fun h => offerKeeps_heldSound.testLevel h l

theorem holdKeeps_setSource (s : State) (k : Fin 2) (f : FaultSource) :
    HoldKeeps s (s.setSource k f) := by
  have ho : ∀ (u : State) (o : Output), HoldKeeps u { u with out := o } := fun u o =>
    .of_same rfl (fun _ => rfl) rfl
  unfold State.setSource
  dsimp only
  split
  · exact ho s _
  · refine HoldKeeps.trans ?_ (holdKeeps_notify _ _)
    split
    · exact ho s _
    · exact ho s _

theorem holdKeeps_takeClaimsGone (s : State) (p : Ctx) : HoldKeeps s (s.takeClaimsGone p) :=
  (keeps_takeClaimsGone s p).toKeeps.holdKeeps fun h => heldSound_takeClaimsGone h p

theorem holdKeeps_anyOrder {α : Type} (s : State) (l : List α) : HoldKeeps s (s.anyOrder l).2 :=
  (keeps_anyOrder s l).toKeeps.holdKeeps fun h => offerKeeps_heldSound.anyOrder h l

theorem holdKeeps_takeAllGone (s : State) (ps : List Ctx) : HoldKeeps s (s.takeAllGone ps) :=
  (holdKeeps_anyOrder s ps).trans (.foldl holdKeeps_takeClaimsGone _ _)

/-- Pairing touches claims and duties, not the held set (R106, R107). -/
theorem held_mixConfig (s : State) (ch : Chan) (cfg : ChannelConfig) :
    (s.mixConfig ch cfg).mix.held = s.mix.held := by
  have h : ((s.modMix ch fun c => { c with arbitration := cfg.arbitration, curve := cfg.curve }).settle
      ch).mix.held = s.mix.held := held_settle _ _
  unfold State.mixConfig State.ceaseSecondary
  dsimp only
  split
  · exact h
  · split
    · exact h
    · split
      · exact h
      · exact h

theorem holdKeeps_configureChannel (s : State) (ch : Chan) (cfg : ChannelConfig) :
    HoldKeeps s (s.configureChannel ch cfg) :=
  (((mixOnly_mixConfig s ch cfg).trans (mixOnly_outConfig _ ch cfg)).holdKeeps
    (held_mixConfig s ch cfg)).trans (holdKeeps_takeAllGone _ _)

/-! ### Requests -/

theorem holdKeeps_takeGoRequest (s : State) (r : Request) (c : Byte) (ptr : Option Half) :
    HoldKeeps s (s.takeGoRequest r c ptr) := by
  unfold State.takeGoRequest
  split
  · exact holdKeeps_refuse s r _
  · next p _ =>
    split
    · next hv =>
      exact .of_ack ((keeps_takeGo (s.ack r) p ptr).toKeeps.holdKeeps fun h => heldSound_takeGo h hv)
    all_goals exact holdKeeps_refuse s r _

theorem holdKeeps_takePauseRequest (s : State) (c : Byte) : HoldKeeps s (s.takePauseRequest c) := by
  unfold State.takePauseRequest
  dsimp only
  split
  · exact holdKeeps_refuse s _ _
  · next p _ =>
    split
    · next cue at_ _ =>
      exact .of_ack (r := .pause c) ⟨rfl, fun h => heldSound_pause h p cue at_⟩
    · next res pp ha =>
      refine .of_ack (r := .pause c) ⟨rfl, fun h => ?_⟩
      exact (ctxStep_setActivity p _ _).heldSound h
        (by simp [State.heldAt, unheld_of_activity h ha rfl, Activity.holding])
    · exact holdKeeps_refuse s _ _

theorem holdKeeps_takeResumeRequest (s : State) (c : Byte) :
    HoldKeeps s (s.takeResumeRequest c) := by
  unfold State.takeResumeRequest
  dsimp only
  split
  · exact holdKeeps_refuse s _ _
  · next p _ =>
    split
    · exact .of_ack ((keeps_takeResume _ p _ _).toKeeps.holdKeeps fun h => heldSound_takeResume h p _ _)
    · exact holdKeeps_refuse s _ _

theorem holdKeeps_takeStopRequest (s : State) (c : Byte) : HoldKeeps s (s.takeStopRequest c) := by
  unfold State.takeStopRequest
  dsimp only
  split
  · exact holdKeeps_refuse s _ _
  · exact .of_ack ((keeps_takeStop _ _).toKeeps.holdKeeps fun h => heldSound_takeStop h _)

theorem holdKeeps_takeReleaseRequest (s : State) (c : Byte) (f : Half) :
    HoldKeeps s (s.takeReleaseRequest c f) := by
  have ht : ∀ (r : Request) (p : Ctx), HoldKeeps s ((s.ack r).takeRelease p f.toNat) := fun r p =>
    .of_ack ((keeps_takeRelease _ p _).toKeeps.holdKeeps fun h => heldSound_takeRelease h p _)
  unfold State.takeReleaseRequest
  dsimp only
  split
  · exact holdKeeps_refuse s _ _
  · split
    · exact holdKeeps_refuse s _ _
    · split
      · exact holdKeeps_refuse s _ _
      · exact ht _ _

theorem holdKeeps_takeConfigContext (s : State) (c : Byte) (h : Half) (r : Byte) :
    HoldKeeps s (s.takeConfigContext c h r) := by
  unfold State.takeConfigContext
  dsimp only
  split
  · exact holdKeeps_refuse s _ _
  · refine .of_ack (r := .configContext c h r) (HoldKeeps.trans ?_ (holdKeeps_examine _))
    refine .of_same rfl (fun q => ?_) rfl
    rw [State.modCtx_ctx]
    split
    · next hq => rw [hq]
    · rfl

theorem holdKeeps_takeSetLevel (s : State) (c l : Byte) (f : Half) (p : Byte) :
    HoldKeeps s (s.takeSetLevel c l f p) := by
  unfold State.takeSetLevel
  dsimp only
  split
  · split
    · exact holdKeeps_refuse s _ _
    · split
      · exact holdKeeps_refuse s _ _
      · exact .of_ack ((mixOnly_claimArrives _ _ _ _ _ _).holdKeeps (held_settle _ _))
  · exact holdKeeps_refuse s _ _

theorem holdKeeps_takeReleaseLevel (s : State) (c : Byte) (f : Half) :
    HoldKeeps s (s.takeReleaseLevel c f) := by
  unfold State.takeReleaseLevel
  dsimp only
  split
  · exact holdKeeps_refuse s _ _
  · split
    · exact holdKeeps_refuse s _ _
    · split
      · exact holdKeeps_refuse s _ _
      · refine .of_ack ((mixOnly_releaseLink _ _ _).holdKeeps ?_)
        rw [State.releaseLink, held_updateClaims]

theorem holdKeeps_takeConfigChannel (s : State) (c : Byte) (e : ChannelEntry) :
    HoldKeeps s (s.takeConfigChannel c e) := by
  unfold State.takeConfigChannel
  dsimp only
  split
  · exact holdKeeps_refuse s _ _
  · split
    · exact holdKeeps_refuse s _ _
    · exact .of_ack (holdKeeps_configureChannel _ _ _)

theorem holdKeeps_takeConfigFault (s : State) (k m : Byte) : HoldKeeps s (s.takeConfigFault k m) := by
  unfold State.takeConfigFault
  dsimp only
  split
  · exact .of_ack (holdKeeps_setSource _ _ _)
  · exact holdKeeps_refuse s _ _

theorem holdKeeps_takeClearFault (s : State) (k : Byte) : HoldKeeps s (s.takeClearFault k) := by
  unfold State.takeClearFault
  dsimp only
  split
  · exact holdKeeps_refuse s _ _
  · split
    · exact holdKeeps_refuse s _ _
    · exact .of_ack (holdKeeps_setSource _ _ _)

theorem holdKeeps_takeConfigGroup (s : State) (g : Byte) (e : GroupEntry) :
    HoldKeeps s (s.takeConfigGroup g e) := by
  unfold State.takeConfigGroup
  dsimp only
  split
  · next k v _ _ =>
    refine .of_ack (r := .configGroup g e) (HoldKeeps.trans ?_ (holdKeeps_examine _))
    have h1 : ∀ t : State, HoldKeeps t (t.setGroup k v) := fun t => holdKeeps_trig t _
    split
    · exact (h1 _).trans (.foldl holdKeeps_testLevel _ _)
    · exact h1 _
  · exact holdKeeps_refuse s _ _

theorem holdKeeps_takeConfigTrigger (s : State) (l : Byte) (e : TriggerEntry) :
    HoldKeeps s (s.takeConfigTrigger l e) := by
  unfold State.takeConfigTrigger
  dsimp only
  split
  · exact .of_ack (((holdKeeps_trig _ _).trans (holdKeeps_testLevel _ _)).trans (holdKeeps_examine _))
  · exact holdKeeps_refuse s _ _

theorem holdKeeps_takeConfigMatcher (s : State) (m : Byte) (e : MatcherEntry) :
    HoldKeeps s (s.takeConfigMatcher m e) := by
  unfold State.takeConfigMatcher
  dsimp only
  split
  · exact .of_ack ((holdKeeps_trig _ _).trans (holdKeeps_examine _))
  · exact holdKeeps_refuse s _ _

/-! ### Requests of the store -/

theorem holdKeeps_takeStoreRead (s : State) (a : Half) (n : Byte) :
    HoldKeeps s (s.takeStoreRead a n) := by
  unfold State.takeStoreRead
  dsimp only
  split_ifs
  iterate 3 exact holdKeeps_refuse s _ _
  exact holdKeeps_startLinkOp s _

theorem holdKeeps_takeStoreProgram (s : State) (w : Half) (d : List Byte) :
    HoldKeeps s (s.takeStoreProgram w d) := by
  unfold State.takeStoreProgram
  dsimp only
  split_ifs
  iterate 4 exact holdKeeps_refuse s _ _
  exact .of_ack (holdKeeps_startLinkOp _ _)

theorem holdKeeps_takeEraseFrame (s : State) (f : Byte) : HoldKeeps s (s.takeEraseFrame f) := by
  unfold State.takeEraseFrame
  dsimp only
  split_ifs
  iterate 4 exact holdKeeps_refuse s _ _
  exact .of_ack (holdKeeps_startLinkOp _ _)

theorem holdKeeps_takeEraseAll (s : State) : HoldKeeps s s.takeEraseAll := by
  unfold State.takeEraseAll
  split_ifs
  iterate 2 exact holdKeeps_refuse s _ _
  exact .of_ack (holdKeeps_startLinkOp _ _)

theorem holdKeeps_takeReloadCurves (s : State) : HoldKeeps s s.takeReloadCurves := by
  unfold State.takeReloadCurves
  split_ifs
  · exact holdKeeps_refuse s _ _
  · exact holdKeeps_startLinkOp s _

theorem holdKeeps_takeWriteEnable (s : State) (m k : Half) : HoldKeeps s (s.takeWriteEnable m k) := by
  unfold State.takeWriteEnable
  dsimp only
  split_ifs
  · exact holdKeeps_refuse s _ _
  · exact .of_same rfl (fun _ => rfl) rfl

/-! ### Requests that reach neither a context nor the mixer -/

theorem holdKeeps_takeQueryContext (s : State) (c : Byte) : HoldKeeps s (s.takeQueryContext c) := by
  unfold State.takeQueryContext
  split <;> exact holdKeeps_reply s _

theorem holdKeeps_takeQueryChannel (s : State) (c : Byte) : HoldKeeps s (s.takeQueryChannel c) := by
  unfold State.takeQueryChannel
  split <;> exact holdKeeps_reply s _

theorem holdKeeps_takeQueryTrigger (s : State) (l : Byte) : HoldKeeps s (s.takeQueryTrigger l) := by
  unfold State.takeQueryTrigger
  split
  · exact holdKeeps_reply s _
  · exact (holdKeeps_reply s _).trans (holdKeeps_trig _ _)

theorem holdKeeps_takePostEvent (s : State) (e : Byte) : HoldKeeps s (s.takePostEvent e) := by
  unfold State.takePostEvent
  dsimp only
  split
  · exact holdKeeps_refuse s _ _
  · exact .of_same rfl (fun _ => rfl) rfl

theorem holdKeeps_takeSetCounter (s : State) (c v : Byte) : HoldKeeps s (s.takeSetCounter c v) := by
  unfold State.takeSetCounter
  dsimp only
  split
  · exact holdKeeps_refuse s _ _
  · exact .of_same rfl (fun _ => rfl) rfl

theorem holdKeeps_takeSetTick (s : State) (c : Byte) : HoldKeeps s (s.takeSetTick c) := by
  unfold State.takeSetTick
  dsimp only
  split
  · exact holdKeeps_refuse s _ _
  · exact .of_same rfl (fun _ => rfl) rfl

/-- Every request's service (R182). -/
theorem holdKeeps_takeRequest (s : State) (r : Request) : HoldKeeps s (s.takeRequest r) := by
  cases r with
  | storeRead a n => exact holdKeeps_takeStoreRead s a n
  | storeProgram w d => exact holdKeeps_takeStoreProgram s w d
  | storeEraseFrame f => exact holdKeeps_takeEraseFrame s f
  | storeEraseAll => exact holdKeeps_takeEraseAll s
  | setWriteEnable m k => exact holdKeeps_takeWriteEnable s m k
  | go c => exact holdKeeps_takeGoRequest s _ c _
  | goWithPointer c p => exact holdKeeps_takeGoRequest s _ c _
  | pause c => exact holdKeeps_takePauseRequest s c
  | resume c => exact holdKeeps_takeResumeRequest s c
  | stop c => exact holdKeeps_takeStopRequest s c
  | release c f => exact holdKeeps_takeReleaseRequest s c f
  | configContext c h f => exact holdKeeps_takeConfigContext s c h f
  | queryContext c => exact holdKeeps_takeQueryContext s c
  | postEvent e => exact holdKeeps_takePostEvent s e
  | setCounter c v => exact holdKeeps_takeSetCounter s c v
  | queryCounters => exact holdKeeps_reply s _
  | setLevel c l f p => exact holdKeeps_takeSetLevel s c l f p
  | releaseLevel c f => exact holdKeeps_takeReleaseLevel s c f
  | queryChannel c => exact holdKeeps_takeQueryChannel s c
  | reloadCurves => exact holdKeeps_takeReloadCurves s
  | configChannel c e => exact holdKeeps_takeConfigChannel s c e
  | configFault k m => exact holdKeeps_takeConfigFault s k m
  | clearFault k => exact holdKeeps_takeClearFault s k
  | configGroup g e => exact holdKeeps_takeConfigGroup s g e
  | configTrigger l e => exact holdKeeps_takeConfigTrigger s l e
  | queryTrigger l => exact holdKeeps_takeQueryTrigger s l
  | configMatcher m e => exact holdKeeps_takeConfigMatcher s m e
  | queryQueue => exact (holdKeeps_reply s _).trans (holdKeeps_trig _ _)
  | setTick c => exact holdKeeps_takeSetTick s c
  | resetPart => exact .of_same rfl (fun _ => rfl) rfl
  | identify => exact holdKeeps_reply s _
  | status => exact .of_same rfl (fun _ => rfl) rfl

theorem holdKeeps_bringIntoService (s : State) (f : InFrame) : HoldKeeps s (s.bringIntoService f) := by
  have hs : HoldKeeps s (s.modLink fun l => { l with service := some f }) :=
    .of_same rfl (fun _ => rfl) rfl
  unfold State.bringIntoService
  refine hs.trans ?_
  unfold State.serve
  split
  · exact holdKeeps_reply _ _
  · next r =>
    split
    · exact holdKeeps_takeRequest _ r
    · exact holdKeeps_refuse _ r _

theorem holdKeeps_modLink (s : State) (f : Link → Link) : HoldKeeps s (s.modLink f) :=
  .of_same rfl (fun _ => rfl) rfl

theorem holdKeeps_frameArrives (s : State) (f : InFrame) : HoldKeeps s (s.frameArrives f) := by
  unfold State.frameArrives
  split_ifs
  · exact .refl s
  · exact holdKeeps_modLink s _
  · exact holdKeeps_bringIntoService s f
  · exact holdKeeps_modLink s _

theorem holdKeeps_moveBuffered (s : State) (f : InFrame) : HoldKeeps s (s.moveBuffered f) :=
  (holdKeeps_modLink s _).trans (holdKeeps_bringIntoService _ f)

theorem holdKeeps_truncate (s : State) : HoldKeeps s s.truncate :=
  (holdKeeps_modLink s _).trans (holdKeeps_frameArrives _ _)

theorem holdKeeps_takeCharacter (s : State) (b : Byte) (stop : Bool) :
    HoldKeeps s (s.takeCharacter b stop) := by
  rcases takeCharacter_cases s b stop with h | ⟨v, h⟩ | ⟨f, h⟩
  · rw [h]; exact .refl s
  · exact h ▸ holdKeeps_modLink s _
  · exact h ▸ (holdKeeps_modLink s _).trans (holdKeeps_frameArrives _ f)

end Sys2Proof.Machine
end

section
/-! The commands that are no requests, the end of start-up, and every step (O60). -/

namespace Sys2Proof.Machine

/-! ### The store's completions -/

theorem holdKeeps_modStore (s : State) (f : Store → Store) : HoldKeeps s (s.modStore f) :=
  .of_same rfl (fun _ => rfl) rfl

theorem holdKeeps_completeRead (s : State) (a : Half) (n : Byte) : HoldKeeps s (s.completeRead a n) :=
  ((holdKeeps_modStore s _).trans (holdKeeps_reply _ _)).trans (holdKeeps_arbitrate _)

/-- A program or an erase ends with its notice. -/
theorem holdKeeps_done {s u : State} (hu : HoldKeeps s u) (n : Notice) :
    HoldKeeps s (u.notify n).arbitrate :=
  (hu.trans (holdKeeps_notify u n)).trans (holdKeeps_arbitrate _)

theorem holdKeeps_completeProgram (s : State) (word : Nat) (data : List Byte) :
    HoldKeeps s (s.completeProgram word data) := by
  refine holdKeeps_done (u := ite _ _ _) ?_ _
  split <;> exact .of_same rfl (fun _ => rfl) rfl

theorem holdKeeps_completeEraseFrame (s : State) (f : Nat) : HoldKeeps s (s.completeEraseFrame f) := by
  refine holdKeeps_done (u := ite _ _ _) ?_ _
  split <;> exact .of_same rfl (fun _ => rfl) rfl

theorem holdKeeps_completeEraseAll (s : State) : HoldKeeps s s.completeEraseAll :=
  holdKeeps_done (s := s) (u := (s.endLinkOp.setCells []).testLock) (.of_same rfl (fun _ => rfl) rfl) _

theorem held_fillCurves (s : State) (slots : Vector CurveSlot 3) :
    (s.fillCurves slots).mix.held = s.mix.held :=
  foldl_keeps (P := fun t => t.mix.held = s.mix.held)
    (fun t ch ht => (held_translate t ch).trans ht) _ rfl

theorem holdKeeps_completeReload (s : State) : HoldKeeps s s.completeReload :=
  (((holdKeeps_modStore s _).trans
    ((mixOnly_fillCurves s.endLinkOp _).holdKeeps (held_fillCurves _ _))).trans
      (holdKeeps_reply _ _)).trans (holdKeeps_arbitrate _)

theorem holdKeeps_completeFetch (s : State) (p : Ctx) (kind : ReadKind) (w : Nat) (live : Bool) :
    HoldKeeps s (s.completeFetch p kind w live) :=
  (keeps_completeFetch s p kind w live).toKeeps.holdKeeps fun h => heldSound_completeFetch h p kind w live

/-! ### Ticks, posts and reports -/

theorem holdKeeps_modOwed (s : State) (f : TicksOwed → TicksOwed) : HoldKeeps s (s.modOwed f) :=
  .of_same rfl (fun _ => rfl) rfl

theorem holdKeeps_produceTick (s : State) : HoldKeeps s s.produceTick := .of_same rfl (fun _ => rfl) rfl

theorem holdKeeps_endCount (s : State) (p : Ctx) : HoldKeeps s (s.endCount p) :=
  (keeps_endCount s p).toKeeps.holdKeeps fun h => heldSound_endCount h p

/-- A context that counts is in FADE, HOLD or WAIT before and after (R48). -/
theorem countDown_holding (c : Context) : c.countDown.activity.holding = c.activity.holding := by
  unfold Context.countDown
  split
  · next h => rw [h]; rfl
  · next h => rw [h]; rfl
  · next h => rw [h]; rfl
  · rfl

theorem countContexts_ctx (s : State) (p : Ctx) :
    s.countContexts.ctx p
      = if ctxIn p s.owed.taken || (s.ctx p).lastTick then s.ctx p else (s.ctx p).countDown := by
  simp [State.countContexts, State.ctx]

theorem holdKeeps_countContexts (s : State) : HoldKeeps s s.countContexts := by
  refine ⟨rfl, fun h => (heldSound_iff _).2 fun p => ?_⟩
  have hp := (heldSound_iff s).1 h p
  rw [State.heldAt, countContexts_ctx]
  split
  · exact hp
  · rw [countDown_holding]
    exact hp

theorem holdKeeps_tickPlay (s : State) : HoldKeeps s s.tickPlay := by
  unfold State.tickPlay
  exact (((holdKeeps_countContexts s).trans (holdKeeps_anyOrder _ _)).trans
    (.foldl holdKeeps_endCount _ _)).trans (holdKeeps_modOwed _ _)

theorem holdKeeps_tickOne (s : State) (p : Ctx) : HoldKeeps s (s.tickOne p) :=
  (holdKeeps_endCount s p).trans (holdKeeps_modOwed _ _)

theorem held_advanceClaims (s : State) : s.advanceClaims.mix.held = s.mix.held := by
  rw [State.advanceClaims, held_updateClaims]

theorem holdKeeps_tickMix (s : State) (first : List Ctx) : HoldKeeps s (s.tickMix first) := by
  unfold State.tickMix
  exact ((((mixOnly_advanceClaims s).holdKeeps (held_advanceClaims s)).trans
    (.foldl holdKeeps_takeClaimsGone _ _)).trans (holdKeeps_takeAllGone _ _)).trans
      (holdKeeps_modOwed _ _)

/-- TRIG never touches the clock. -/
theorem offerKeeps_clk (c : Clock) : OfferKeeps fun s => s.clk = c where
  offer h r p := (offer_spec _ r p).1.clk.trans h
  notify h n := (keeps_notify _ n).clk.trans h
  post h _ := h
  free h _ := h
  reports h _ := h
  trig h _ := h

/-- What TRIG does keeps the phase of start-up and the held set. -/
theorem OfferKeeps.holdKeeps {s t : State} (h : ∀ {P : State → Prop}, OfferKeeps P → P s → P t) :
    HoldKeeps s t := by
  have hk : t.clk = s.clk := h (offerKeeps_clk s.clk) rfl
  exact ⟨by rw [hk], h offerKeeps_heldSound⟩

theorem holdKeeps_takeTrigTick (s : State) : HoldKeeps s s.takeTrigTick :=
  (OfferKeeps.holdKeeps fun h => h.tickTrig).trans (holdKeeps_modOwed _ _)

theorem holdKeeps_acceptChange (s : State) (l : Line) (high : Bool) :
    HoldKeeps s (s.acceptChange l high) :=
  OfferKeeps.holdKeeps fun h hs => h.acceptChange hs l high

theorem holdKeeps_takeFirstSample (s : State) (l : Line) (high : Bool) :
    HoldKeeps s (s.takeFirstSample l high) :=
  OfferKeeps.holdKeeps fun h hs => h.takeFirstSample hs l high

theorem holdKeeps_takeReport (s : State) (r : Report) : HoldKeeps s (s.takeReport r) :=
  OfferKeeps.holdKeeps fun h hs => h.takeReport hs r

theorem holdKeeps_takePost (s : State) (p : Ctx) (e : EventId) : HoldKeeps s (s.takePost p e) :=
  (keeps_takePost s p e).toKeeps.holdKeeps fun h => heldSound_takePost h p e

/-! ### A reset, and the steps of start-up (R168 to R175) -/

theorem still_partReset (s : State) (cause : ResetCause) : (s.partReset cause).Still where
  activity p := by simp [State.partReset, State.afterReset, State.ctx, Context.reset]
  port := rfl
  linkOp := rfl
  owed := rfl
  posts := rfl
  reports := rfl
  queue := rfl
  sampled l := by simp [State.partReset, State.afterReset, TriggerUnit.reset]
  notices := rfl
  stamp := rfl
  resetPending := rfl
  held := rfl
  curves k := by simp [State.partReset, State.afterReset, Mixer.reset]
  channels ch := by
    simp [State.partReset, State.afterReset, State.mixCh, State.outCh, Mixer.reset, MixChannel.reset,
      Output.reset, OutChannel.reset, OutSettings.reset]

theorem State.Still.endReset {s : State} (h : s.Still) (cause : ResetCause) (baud : Bool) :
    (s.endReset cause baud).Still := { h with }

/-- A channel's configuration from the header moves nothing where it has no claim (R107, R108). -/
theorem load_still {c : MixChannel} (cfg : ChannelConfig) (second : Bool)
    (h : c.claims = .empty ∧ c.level = 0 ∧ c.dutyLast = 0) :
    (c.load cfg second).claims = .empty ∧ (c.load cfg second).level = 0
      ∧ (c.load cfg second).dutyLast = 0 := by
  rw [load_eq]
  dsimp only
  split
  · exact ⟨rfl, rfl, h.2.2⟩
  · exact h

theorem State.Still.readHeader {s : State} (h : s.Still) : s.readHeader.Still :=
  { h with
    activity := fun p => by rw [readHeader_ctx]; exact h.activity p
    sampled := h.sampled
    channels := fun ch => by
      obtain ⟨hclaims, hlevel, hlast, hduty⟩ := h.channels ch
      obtain ⟨h1, h2, h3⟩ := load_still (s.startConfig ch)
        (isOdd ch && (s.startConfig (evenPartner ch)).mode == .pair) ⟨hclaims, hlevel, hlast⟩
      rw [readHeader_mixCh, readHeader_outCh]
      exact ⟨h1, h2, h3, hduty⟩ }

theorem held_startCurves (s : State) : s.startCurves.mix.held = s.mix.held := by
  rw [State.startCurves, State.translateAll]
  exact foldl_keeps (P := fun t => t.mix.held = s.mix.held)
    (fun t ch ht => (held_translate t ch).trans ht) _ (held_fillCurves s _)

/-- Autostart GOs to contexts that are IDLE and have a home pointer (R175). -/
theorem heldSound_autostarts {ps : List Ctx} (hn : ps.Nodup) {s : State} (h : s.heldSound)
    (hi : ∀ p ∈ ps, (s.ctx p).activity = .idle) :
    (ps.foldl (fun t p => t.takeGo p none) s).heldSound := by
  induction ps generalizing s with
  | nil => exact h
  | cons p ps ih =>
    obtain ⟨hp, hn⟩ := List.nodup_cons.1 hn
    have hidle := hi p List.mem_cons_self
    have hgo : s.takeGo p none = s.enterFetch p (s.ctx p).home := by
      unfold State.takeGo
      rw [hidle]
    rw [List.foldl_cons, hgo]
    refine ih hn (heldSound_enterFetch h (unheld_of_activity h hidle rfl) _) fun q hq => ?_
    rw [(phaseStep_enterFetch p s _).ctx q fun hqp => hp (hqp ▸ hq)]
    exact hi q (List.mem_cons_of_mem _ hq)

theorem anyOrder_contexts {α : Type} (s : State) (l : List α) :
    (s.anyOrder l).2.contexts = s.contexts := by
  unfold State.anyOrder
  split <;> rfl

theorem held_startPeriod (s : State) (ch : Chan) : (s.startPeriod ch).mix.held = s.mix.held := by
  unfold State.startPeriod
  dsimp only
  split <;> rfl

theorem contexts_started (s : State) (valid : Bool) :
    ((s.startRunning valid).startOutput).contexts = s.contexts :=
  notify_contexts s _

theorem held_started (s : State) (valid : Bool) :
    ((s.startRunning valid).startOutput).mix.held = s.mix.held := by
  have h : (s.startRunning valid).startOutput.mix = (s.notify (.started s.clk.cause valid
      s.store.lockActive)).mix := rfl
  rw [h, notify_eq_link]

theorem autostart_clk (s : State) : s.autostart.clk = s.clk := by
  unfold State.autostart
  exact foldl_keeps (P := fun t => t.clk = s.clk)
    (fun t p ht => (keeps_takeGo t p none).clk.trans ht) _ (keeps_anyOrder s _).clk

theorem heldSound_autostart {s : State} (h : s.heldSound) (hi : ∀ p, (s.ctx p).activity = .idle) :
    s.autostart.heldSound := by
  unfold State.autostart
  refine heldSound_autostarts ((anyOrder_perm s _).nodup_iff.2 (List.Nodup.filter _ (by decide)))
    (offerKeeps_heldSound.anyOrder h _) fun p _ => ?_
  rw [State.ctx, anyOrder_contexts]
  exact hi p

/-- The end of start-up leaves the part RUNNING, with the claims held of the contexts whose autostart failed. -/
theorem endStartUp_running {s : State} (h : s.Still) (valid : Bool) :
    (s.endStartUp valid).clk.stage = .running ∧ (s.endStartUp valid).heldSound := by
  have hcontexts : (s.startCurves.startRunning valid).startOutput.contexts = s.contexts := by
    rw [contexts_started, (mixOnly_startCurves s).contexts]
  have hheld : (s.startCurves.startRunning valid).startOutput.mix.held = s.mix.held := by
    rw [held_started, held_startCurves]
  have hstage : (s.startCurves.startRunning valid).startOutput.clk.stage = .running := rfl
  unfold State.endStartUp
  generalize (s.startCurves.startRunning valid).startOutput = u at *
  have hctx : ∀ p, u.ctx p = s.ctx p := fun p => by
    rw [State.ctx, hcontexts, State.ctx]
  have hsound : u.heldSound := heldSound_congr h.heldSound (fun p => by rw [hctx]) hheld
  have hgo : u.autostart.heldSound :=
    heldSound_autostart hsound fun p => by rw [hctx]; exact h.activity p
  refine ⟨?_, offerKeeps_heldSound.examine hgo⟩
  rw [(keeps_examine _).clk, autostart_clk, hstage]

theorem completeStartUp_running {s : State} (h : s.Still) (valid : Bool) :
    (s.completeStartUp valid).isRunning = true ∧ (s.completeStartUp valid).heldSound := by
  obtain ⟨hstage, hheld⟩ := endStartUp_running h valid
  have hrun : ∀ u : State, u.clk.stage = .running → u.isRunning = true := fun u hu => by
    simp [State.isRunning, hu]
  unfold State.completeStartUp
  dsimp only
  split
  · next f _ =>
    have hk := holdKeeps_moveBuffered (s.endStartUp valid) f
    exact ⟨hrun _ (hk.stage.trans hstage), hk.held hheld⟩
  · exact ⟨hrun _ hstage, hheld⟩

/-! ### Every command -/

/-- All that a command does to the phase of start-up, to the part before RUNNING and to the held set. -/
inductive PhaseCase (s : State) : State → Prop
  | keeps {t : State} (h : HoldKeeps s t) (hs : s.isRunning = false → s.Still → t.Still) : PhaseCase s t
  | reset (cause : ResetCause) : PhaseCase s (s.partReset cause)
  | resetEnd {cause : ResetCause} (h : s.clk.stage = .inReset cause) (baud : Bool) :
      PhaseCase s (s.endReset cause baud)
  | header (h : s.clk.stage = .readingHeader) : PhaseCase s s.readHeader
  | startUp {valid : Bool} (h : s.clk.stage = .loadingCurves valid) : PhaseCase s (s.completeStartUp valid)

/-- An event of the link. -/
theorem PhaseCase.link {s t : State} (h : HoldKeeps s t) (hl : s.isRunning = false → LinkStill s t) :
    PhaseCase s t := .keeps h fun hr => (hl hr).still

/-- An event that does not occur before RUNNING. -/
theorem PhaseCase.absent {s t : State} (h : HoldKeeps s t) (ha : s.isRunning = false → ¬ s.Still) :
    PhaseCase s t := .keeps h fun hr hs => absurd hs (ha hr)

/-- An event that occurs under a condition: the condition held. -/
theorem of_next_ite {c : Prop} [Decidable c] {x t : State} {m : String}
    (h : (if c then Host.Outcome.next x else cannotOccur m) = .next t) : c ∧ x = t := by
  split at h
  · next hc => cases h; exact ⟨hc, rfl⟩
  · cases h

section
variable {s t : State}

/-- An event that occurs in RUNNING only, or while a tick is owed, a post, a report or a record stands. -/
theorem phaseCase_of_ite {c : Prop} [Decidable c] {x : State} {m : String}
    (h : (if c then Host.Outcome.next x else cannotOccur m) = .next t) (hk : HoldKeeps s x)
    (ha : c → s.isRunning = false → ¬ s.Still) : PhaseCase s t := by
  obtain ⟨hc, rfl⟩ := of_next_ite h
  exact .absent hk (ha hc)

theorem not_still_of_port (h : s.store.port ≠ none) : s.isRunning = false → ¬ s.Still :=
  fun _ hs => h hs.port

theorem not_still_of_play (h : 0 < s.owed.play) : s.isRunning = false → ¬ s.Still := fun _ hs => by
  rw [hs.owed] at h
  exact Nat.lt_irrefl 0 h

theorem not_still_of_mix (h : 0 < s.owed.mix) : s.isRunning = false → ¬ s.Still := fun _ hs => by
  rw [hs.owed] at h
  exact Nat.lt_irrefl 0 h

theorem not_still_of_trig (h : 0 < s.owed.trig) : s.isRunning = false → ¬ s.Still := fun _ hs => by
  rw [hs.owed] at h
  exact Nat.lt_irrefl 0 h

theorem not_still_of_isRunning (h : s.isRunning = true) : s.isRunning = false → ¬ s.Still :=
  fun hr => absurd (h.symm.trans hr) (by decide)

/-- A count that ends at a tick is one that a tick is owed to. -/
theorem play_of_tickEnds {p : Ctx} (h : s.tickEnds p = true) : 0 < s.owed.play := by
  simp only [State.tickEnds, Bool.and_eq_true, decide_eq_true_eq] at h
  exact h.1.1

theorem phaseCase_requestCommand (r : Request) (h : exec (requestCommand r) s = .next t) :
    PhaseCase s t := by
  rw [exec_requestCommand] at h
  cases h
  exact .link (holdKeeps_frameArrives s _) fun hr => linkStill_frameArrives hr _

theorem phaseCase_storeReadComplete (h : exec .storeReadComplete s = .next t) : PhaseCase s t := by
  change execStoreReadComplete s = _ at h
  unfold execStoreReadComplete at h
  split at h
  · next hp _ => cases h; exact .absent (holdKeeps_completeRead s _ _) (not_still_of_port (by simp [hp]))
  · cases h

theorem phaseCase_storeProgramComplete (h : exec .storeProgramComplete s = .next t) :
    PhaseCase s t := by
  change execStoreProgramComplete s = _ at h
  unfold execStoreProgramComplete at h
  split at h
  · next hp _ => cases h; exact .absent (holdKeeps_completeProgram s _ _) (not_still_of_port (by simp [hp]))
  · cases h

theorem phaseCase_eraseFrameComplete (h : exec .eraseFrameComplete s = .next t) : PhaseCase s t := by
  change execEraseFrameComplete s = _ at h
  unfold execEraseFrameComplete at h
  split at h
  · next hp _ => cases h; exact .absent (holdKeeps_completeEraseFrame s _) (not_still_of_port (by simp [hp]))
  · cases h

theorem phaseCase_eraseAllComplete (h : exec .eraseAllComplete s = .next t) : PhaseCase s t := by
  change execEraseAllComplete s = _ at h
  unfold execEraseAllComplete at h
  split at h
  · next hp _ => cases h; exact .absent (holdKeeps_completeEraseAll s) (not_still_of_port (by simp [hp]))
  · cases h

theorem phaseCase_curveLoadComplete (h : exec .curveLoadComplete s = .next t) : PhaseCase s t := by
  change execCurveLoadComplete s = _ at h
  unfold execCurveLoadComplete at h
  split at h
  · next hp _ => cases h; exact .absent (holdKeeps_completeReload s) (not_still_of_port (by simp [hp]))
  · cases h

theorem phaseCase_linkStepReadComplete (h : exec .linkStepReadComplete s = .next t) :
    PhaseCase s t := by
  change execLinkStepReadComplete s = _ at h
  unfold execLinkStepReadComplete at h
  split at h
  · next hp =>
    cases h
    exact .absent (holdKeeps_completeFetch s _ _ _ _) (not_still_of_port (by simp [hp]))
  · cases h

theorem phaseCase_probeReadComplete (h : exec .probeReadComplete s = .next t) : PhaseCase s t := by
  change execProbeReadComplete s = _ at h
  unfold execProbeReadComplete at h
  split at h
  · next hp =>
    cases h
    exact .absent (holdKeeps_completeFetch s _ _ _ _) (not_still_of_port (by simp [hp]))
  · cases h

theorem phaseCase_recordReadComplete (h : exec .recordReadComplete s = .next t) : PhaseCase s t := by
  change execRecordReadComplete s = _ at h
  unfold execRecordReadComplete at h
  split at h
  · next hp =>
    cases h
    exact .absent (holdKeeps_completeFetch s _ _ _ _) (not_still_of_port (by simp [hp]))
  · cases h

theorem phaseCase_post {p : Ctx} {e : EventId} (h : exec (.post p e) s = .next t) : PhaseCase s t := by
  let u : State := { s with posts := s.posts.erase (p, e) }
  have hu : HoldKeeps s u := .of_same rfl (fun _ => rfl) rfl
  refine phaseCase_of_ite h (hu.trans (holdKeeps_takePost u p e)) fun hc _ hs => ?_
  rw [hs.posts] at hc
  exact List.not_mem_nil hc

theorem phaseCase_phaseReport {p : Ctx} (h : exec (.phaseReport p) s = .next t) : PhaseCase s t := by
  change execPhaseReport p s = _ at h
  unfold execPhaseReport at h
  split at h
  · next r hr =>
    cases h
    let u : State := { s with reports := s.reports.erase r }
    have hu : HoldKeeps s u := .of_same rfl (fun _ => rfl) rfl
    refine .absent (hu.trans (holdKeeps_takeReport u r)) fun _ hs => ?_
    rw [hs.reports] at hr
    cases hr
  · cases h

theorem phaseCase_frameTransmitted (h : exec .frameTransmitted s = .next t) : PhaseCase s t := by
  change execFrameTransmitted s = _ at h
  unfold execFrameTransmitted at h
  split at h
  · next f rest _ ho =>
    cases h
    unfold State.frameSent
    split
    · exact .reset _
    · refine .link (holdKeeps_modLink s _) fun _ => ⟨rfl, ?_⟩
      simp only [State.modLink_link, Link.notices, Link.begin_keeps_outbound, ho]
      exact (List.sublist_cons_self f rest).countP_le
  · cases h

theorem phaseCase_holdChange {high : Bool} (h : exec (.holdChange high) s = .next t) :
    PhaseCase s t := by
  cases h
  exact .link (holdKeeps_modLink s _) fun _ => linkStill_modLink s (Link.begin_keeps_outbound _)

theorem phaseCase_bufferedRequestMove (h : exec .bufferedRequestMove s = .next t) : PhaseCase s t := by
  change execBufferedRequestMove s = _ at h
  unfold execBufferedRequestMove at h
  split at h
  · next f _ =>
    cases h
    have hb : LinkStill s (s.modLink fun l => { l with buffered := none }) := linkStill_modLink s rfl
    exact .link (holdKeeps_moveBuffered s f) fun hr =>
      hb.trans (linkStill_bringIntoService (s := s.modLink fun l => { l with buffered := none }) hr f)
  · cases h

theorem phaseCase_resetEnd {b : Bool} (h : exec (.resetEnd b) s = .next t) : PhaseCase s t := by
  change execResetEnd b s = _ at h
  unfold execResetEnd at h
  split at h
  · next hg => cases h; exact .resetEnd hg b
  · cases h

theorem phaseCase_headerReadComplete (h : exec .headerReadComplete s = .next t) : PhaseCase s t := by
  change execHeaderReadComplete s = _ at h
  unfold execHeaderReadComplete at h
  split at h
  · next hg => cases h; exact .header hg
  · cases h

theorem phaseCase_startUpCurveLoadComplete (h : exec .startUpCurveLoadComplete s = .next t) :
    PhaseCase s t := by
  change execStartUpCurveLoadComplete s = _ at h
  unfold execStartUpCurveLoadComplete at h
  split at h
  · next hg => cases h; exact .startUp hg
  · cases h

theorem phaseCase_gapExpiry (h : exec .gapExpiry s = .next t) : PhaseCase s t := by
  obtain ⟨-, rfl⟩ := of_next_ite h
  exact .link (holdKeeps_truncate s) linkStill_truncate

end

/-- Every command with a next state is one of the cases. -/
theorem phaseCase_of_exec {c : Instr} {s t : State} (h : exec c s = .next t) : PhaseCase s t := by
  cases c with
  | storeRead a n => exact phaseCase_requestCommand (.storeRead a n) h
  | storeProgram w d => exact phaseCase_requestCommand (.storeProgram w d) h
  | storeEraseFrame f => exact phaseCase_requestCommand (.storeEraseFrame f) h
  | storeEraseAll => exact phaseCase_requestCommand .storeEraseAll h
  | setWriteEnable m k => exact phaseCase_requestCommand (.setWriteEnable m k) h
  | go p => exact phaseCase_requestCommand (.go p) h
  | goWithPointer p f => exact phaseCase_requestCommand (.goWithPointer p f) h
  | pause p => exact phaseCase_requestCommand (.pause p) h
  | resume p => exact phaseCase_requestCommand (.resume p) h
  | stop p => exact phaseCase_requestCommand (.stop p) h
  | release p f => exact phaseCase_requestCommand (.release p f) h
  | configContext p f r => exact phaseCase_requestCommand (.configContext p f r) h
  | queryContext p => exact phaseCase_requestCommand (.queryContext p) h
  | postEvent e => exact phaseCase_requestCommand (.postEvent e) h
  | setCounter k v => exact phaseCase_requestCommand (.setCounter k v) h
  | queryCounters => exact phaseCase_requestCommand .queryCounters h
  | setLevel ch l f p => exact phaseCase_requestCommand (.setLevel ch l f p) h
  | releaseLevel ch f => exact phaseCase_requestCommand (.releaseLevel ch f) h
  | queryChannel ch => exact phaseCase_requestCommand (.queryChannel ch) h
  | reloadCurves => exact phaseCase_requestCommand .reloadCurves h
  | configChannel ch e => exact phaseCase_requestCommand (.configChannel ch e) h
  | configFault k m => exact phaseCase_requestCommand (.configFault k m) h
  | clearFault k => exact phaseCase_requestCommand (.clearFault k) h
  | configGroup g e => exact phaseCase_requestCommand (.configGroup g e) h
  | configTrigger l e => exact phaseCase_requestCommand (.configTrigger l e) h
  | queryTrigger l => exact phaseCase_requestCommand (.queryTrigger l) h
  | configMatcher m e => exact phaseCase_requestCommand (.configMatcher m e) h
  | queryQueue => exact phaseCase_requestCommand .queryQueue h
  | setTick k => exact phaseCase_requestCommand (.setTick k) h
  | resetPart => exact phaseCase_requestCommand .resetPart h
  | identify => exact phaseCase_requestCommand .identify h
  | status => exact phaseCase_requestCommand .status h
  | storeReadComplete => exact phaseCase_storeReadComplete h
  | storeProgramComplete => exact phaseCase_storeProgramComplete h
  | eraseFrameComplete => exact phaseCase_eraseFrameComplete h
  | eraseAllComplete => exact phaseCase_eraseAllComplete h
  | curveLoadComplete => exact phaseCase_curveLoadComplete h
  | linkStepReadComplete => exact phaseCase_linkStepReadComplete h
  | probeReadComplete => exact phaseCase_probeReadComplete h
  | recordReadComplete => exact phaseCase_recordReadComplete h
  | tick => exact phaseCase_of_ite h (holdKeeps_produceTick s) not_still_of_isRunning
  | tickArrivalPlay => exact phaseCase_of_ite h (holdKeeps_tickPlay s) not_still_of_play
  | tickArrivalMix => exact phaseCase_of_ite h (holdKeeps_tickMix s _) not_still_of_mix
  | tickArrivalTrig => exact phaseCase_of_ite h (holdKeeps_takeTrigTick s) not_still_of_trig
  | fadeComplete p =>
    exact phaseCase_of_ite h (holdKeeps_tickOne s p) fun hc => not_still_of_play (play_of_tickEnds hc.2)
  | holdExpiry p =>
    exact phaseCase_of_ite h (holdKeeps_tickOne s p) fun hc => not_still_of_play (play_of_tickEnds hc.2)
  | waitTimeout p =>
    exact phaseCase_of_ite h (holdKeeps_tickOne s p) fun hc => not_still_of_play (play_of_tickEnds hc.2)
  | releaseFadeEnd ch who =>
    exact phaseCase_of_ite h (holdKeeps_tickMix s _) fun hc => not_still_of_mix hc.1
  | gapLapse m => exact phaseCase_of_ite h (holdKeeps_takeTrigTick s) fun hc => not_still_of_trig hc.1
  | recordExpiry src =>
    exact phaseCase_of_ite h (holdKeeps_takeTrigTick s) fun hc => not_still_of_trig hc.1
  | post p e => exact phaseCase_post h
  | phaseReport p => exact phaseCase_phaseReport h
  | acceptedChange l high =>
    exact phaseCase_of_ite h (holdKeeps_acceptChange s l high) fun hc => not_still_of_isRunning hc.1
  | firstSample l high =>
    exact phaseCase_of_ite h (holdKeeps_takeFirstSample s l high) fun hc => not_still_of_isRunning hc.1
  | faultInputChange k a =>
    exact phaseCase_of_ite h (holdKeeps_setSource s k _) fun hc => not_still_of_isRunning hc.1
  | periodStart ch =>
    exact phaseCase_of_ite h ((mixOnly_startPeriod s ch).holdKeeps (held_startPeriod s ch))
      fun hc => not_still_of_isRunning hc.1
  | byteArrival b stop =>
    cases h
    exact .link (holdKeeps_takeCharacter s b stop) fun hr => linkStill_takeCharacter hr b stop
  | gapExpiry => exact phaseCase_gapExpiry h
  | frameTransmitted => exact phaseCase_frameTransmitted h
  | holdChange high => exact phaseCase_holdChange h
  | bufferedRequestMove => exact phaseCase_bufferedRequestMove h
  | powerReset => cases h; exact .reset _
  | pinReset => cases h; exact .reset _
  | resetEnd b => exact phaseCase_resetEnd h
  | headerReadComplete => exact phaseCase_headerReadComplete h
  | startUpCurveLoadComplete => exact phaseCase_startUpCurveLoadComplete h
  | lineSample l high =>
    exact phaseCase_of_ite h (holdKeeps_trig s _) fun hc => not_still_of_isRunning hc.1

theorem isRunning_congr {s t : State} (h : t.clk.stage = s.clk.stage) : t.isRunning = s.isRunning := by
  rw [State.isRunning, h]
  rfl

theorem isRunning_of_stage {s : State} {g : Stage} (h : s.clk.stage = g) (hg : g ≠ .running) :
    s.isRunning = false := by
  simp [State.isRunning, h, hg]

/-- What the cases give: before RUNNING the part stays still, and the held set stays with the phases. -/
theorem PhaseCase.sound {s t : State} (h : PhaseCase s t) (hq : s.isRunning = false → s.Still) :
    (t.isRunning = false → t.Still) ∧ (s.heldSound → t.heldSound) := by
  cases h with
  | keeps hk hs =>
    refine ⟨fun hr => ?_, hk.held⟩
    rw [isRunning_congr hk.stage] at hr
    exact hs hr (hq hr)
  | reset cause =>
    have ht := still_partReset s cause
    exact ⟨fun _ => ht, fun _ => ht.heldSound⟩
  | @resetEnd cause hg baud =>
    have ht := (hq (isRunning_of_stage hg (by simp))).endReset cause baud
    exact ⟨fun _ => ht, fun _ => ht.heldSound⟩
  | header hg =>
    have ht := (hq (isRunning_of_stage hg (by simp))).readHeader
    exact ⟨fun _ => ht, fun _ => ht.heldSound⟩
  | @startUp valid hg =>
    obtain ⟨hr, ht⟩ := completeStartUp_running (hq (isRunning_of_stage hg (by simp))) valid
    exact ⟨fun hf => absurd (hr.symm.trans hf) (by decide), fun _ => ht⟩

/-- Settles O60: an idle step keeps everything, and every other step is a command's. -/
theorem stepKeepsThePhases : Obligations.StepKeepsThePhases := by
  intro s t h
  simp only [quietBeforeRunning_iff]
  unfold step at h
  split at h
  · cases h
    exact ⟨id, fun _ => id⟩
  · next c rest _ =>
    exact ⟨fun hq => ((phaseCase_of_exec h).sound fun hr => { hq hr with }).1,
      fun hq => ((phaseCase_of_exec h).sound fun hr => { hq hr with }).2⟩

end Sys2Proof.Machine
end

section
/-! What QUERY_CONTEXT, QUERY_CHANNEL, QUERY_TRIGGER and QUERY_QUEUE answer (O6). -/

namespace Sys2Proof.Machine

section
variable {s : State} (h : s.accepts)
include h

/-- What a request's command does at an accepting part is what its block does with it (R182). -/
theorem exec_of_served {t : State} {r : Request} (hr : (s.serving r).takeRequest r = t) :
    exec (requestCommand r) s = .next t := by
  rw [exec_of_accepts h, hr]

theorem exec_queryContext {n : Byte} {p : Ctx} (hn : n.toNat = p.val) :
    exec (.queryContext n) s = .next (s.reply (.contextInfo p (s.ctx p))) := by
  refine exec_of_served h (r := .queryContext n) ?_
  show (s.serving (.queryContext n)).takeQueryContext n = _
  rw [State.takeQueryContext, byteFin_eq_some hn]
  rfl

theorem queryContext_refused {n : Byte} (hn : 3 < n.toNat) :
    exec (.queryContext n) s = .next (s.refuse (.queryContext n) .badField) := by
  refine exec_of_refused h (r := .queryContext n) ?_
  show (s.serving (.queryContext n)).takeQueryContext n = _
  rw [State.takeQueryContext, byteFin_eq_none hn]

theorem exec_queryChannel {n : Byte} {ch : Chan} (hn : n.toNat = ch.val) :
    exec (.queryChannel n) s = .next (s.reply (.channelInfo ch (s.mixCh ch) s.mix.held)) := by
  refine exec_of_served h (r := .queryChannel n) ?_
  show (s.serving (.queryChannel n)).takeQueryChannel n = _
  rw [State.takeQueryChannel, byteFin_eq_some hn]
  rfl

theorem queryChannel_refused {n : Byte} (hn : 15 < n.toNat) :
    exec (.queryChannel n) s = .next (s.refuse (.queryChannel n) .badField) := by
  refine exec_of_refused h (r := .queryChannel n) ?_
  show (s.serving (.queryChannel n)).takeQueryChannel n = _
  rw [State.takeQueryChannel, byteFin_eq_none hn]

/-- The two marks of the entry are cleared behind the reply (R144). -/
theorem exec_queryTrigger {n : Byte} {l : Line} (hn : n.toNat = l.val) :
    exec (.queryTrigger n) s = .next
      ((s.reply (.triggerInfo l (s.trigger l) (s.trig.lines[l]).high (s.lineActive l)
        (s.groupEnabled l) (s.isQueued (.line l)))).modTrigger l
          fun t => { t with coalesced := false, missed := false }) := by
  refine exec_of_served h (r := .queryTrigger n) ?_
  show (s.serving (.queryTrigger n)).takeQueryTrigger n = _
  rw [State.takeQueryTrigger, byteFin_eq_some hn]
  rfl

theorem queryTrigger_refused {n : Byte} (hn : 23 < n.toNat) :
    exec (.queryTrigger n) s = .next (s.refuse (.queryTrigger n) .badField) := by
  refine exec_of_refused h (r := .queryTrigger n) ?_
  show (s.serving (.queryTrigger n)).takeQueryTrigger n = _
  rw [State.takeQueryTrigger, byteFin_eq_none hn]

end

/-- Both matchers changed, as one vector. -/
theorem modMatcher_both (s : State) (f : Matcher → Matcher) :
    (s.modMatcher 0 f).modMatcher 1 f
      = { s with trig := { s.trig with matchers := #v[f s.trig.matchers[0], f s.trig.matchers[1]] } } := by
  have hm : (s.trig.matchers.set 0 (f s.trig.matchers[0])).set 1
      (f (s.trig.matchers.set 0 (f s.trig.matchers[0]))[1])
        = #v[f s.trig.matchers[0], f s.trig.matchers[1]] := by
    ext1 i hi
    match i, hi with
    | 0, _ => simp
    | 1, _ => simp
  simpa [State.modMatcher] using hm

theorem exec_queryQueue {s : State} (h : s.accepts) :
    exec .queryQueue s = .next
      (let t := s.reply (.queueInfo s.trig.queue s.trig.matchers)
       let m0 : Matcher := { s.trig.matchers[0] with coalesced := false, missed := false }
       let m1 : Matcher := { s.trig.matchers[1] with coalesced := false, missed := false }
       { t with trig := { s.trig with matchers := #v[m0, m1] } }) := by
  refine exec_of_served h (r := .queryQueue) ?_
  show (s.serving .queryQueue).takeQueryQueue = _
  rw [State.takeQueryQueue, modMatcher_both]
  rfl

/-- Settles O6. -/
theorem queriesAreAnswered : Obligations.QueriesAreAnswered :=
  ⟨fun _ _ h => ⟨fun _ => exec_queryContext h, queryContext_refused h, fun _ => exec_queryChannel h,
      queryChannel_refused h⟩,
    fun _ _ h => ⟨fun _ => exec_queryTrigger h, queryTrigger_refused h, exec_queryQueue h⟩⟩

end Sys2Proof.Machine
end

section
/-! The context requests' fields, CONFIG_CONTEXT (O13), and GO (O14). -/

namespace Sys2Proof.Machine

/-! ### Refusals by number and fade (R54, R61, R192) -/

/-- A request to a context whose number is out of range. -/
theorem contextRequests_refused {s : State} (h : s.accepts) {n : Byte} (hn : 3 < n.toNat) (field fade : Half)
    (flag : Byte) :
    exec (.go n) s = .next (s.refuse (.go n) .badField)
      ∧ exec (.goWithPointer n field) s = .next (s.refuse (.goWithPointer n field) .badField)
      ∧ exec (.pause n) s = .next (s.refuse (.pause n) .badField)
      ∧ exec (.resume n) s = .next (s.refuse (.resume n) .badField)
      ∧ exec (.stop n) s = .next (s.refuse (.stop n) .badField)
      ∧ exec (.release n fade) s = .next (s.refuse (.release n fade) .badField)
      ∧ exec (.configContext n field flag) s
          = .next (s.refuse (.configContext n field flag) .badField) := by
  have hb : byteFin 4 n = none := byteFin_eq_none hn
  refine ⟨exec_of_refused h (r := .go n) ?_, exec_of_refused h (r := .goWithPointer n field) ?_,
    exec_of_refused h (r := .pause n) ?_, exec_of_refused h (r := .resume n) ?_,
    exec_of_refused h (r := .stop n) ?_, exec_of_refused h (r := .release n fade) ?_,
    exec_of_refused h (r := .configContext n field flag) ?_⟩
  · rw [State.takeRequest, State.takeGoRequest, hb]
  · rw [State.takeRequest, State.takeGoRequest, hb]
  · rw [State.takeRequest, State.takePauseRequest, hb]
  · rw [State.takeRequest, State.takeResumeRequest, hb]
  · rw [State.takeRequest, State.takeStopRequest, hb]
  · rw [State.takeRequest, State.takeReleaseRequest, hb]
  · rw [State.takeRequest, State.takeConfigContext, hb]

theorem release_refused_noFade {s : State} (h : s.accepts) (n : Byte) {fade : Half} (hf : fade.toNat = 65535) :
    exec (.release n fade) s = .next (s.refuse (.release n fade) .badField) := by
  refine exec_of_refused h (r := .release n fade) ?_
  rw [State.takeRequest, State.takeReleaseRequest]
  split
  · rfl
  · exact if_pos hf

/-! ### CONFIG_CONTEXT (R66) -/

theorem exec_configContext {s : State} (h : s.accepts) {n : Byte} {p : Ctx} (hn : n.toNat = p.val)
    (home : Half) (flag : Byte) :
    exec (.configContext n home flag) s = .next
      ((s.ack (.configContext n home flag)).modCtx p fun c =>
        { c with home := home, report := flag.getLsbD 0 }).examine := by
  refine exec_of_served h (r := .configContext n home flag) ?_
  rw [State.takeRequest, State.takeConfigContext, byteFin_eq_some hn]
  rfl

theorem walk_of_empty {s : State} (h : s.trig.queue = []) (k i : Nat) : State.walk k i s = s := by
  cases k with
  | zero => rfl
  | succ k => rw [State.walk, h]; rfl

/-- An examination of an empty queue does nothing (R155). -/
theorem examine_of_empty {s : State} (h : s.trig.queue = []) : s.examine = s := by
  have hw : s.walkOnce = (s, []) := by
    rw [State.walkOnce, walk_of_empty (s := { s with reports := [] }) h]
  rw [State.examine, State.examineOwing, hw]
  exact takeOwed_nil _ _

/-- Settles O13. -/
theorem contextConfigurationAndChecks : Obligations.ContextConfigurationAndChecks := by
  refine ⟨fun s n field fade flag h =>
    ⟨fun hn => contextRequests_refused h hn field fade flag, release_refused_noFade h n⟩,
    fun s n p home flag h hn => ?_⟩
  have hexec := exec_configContext h hn home flag
  refine ⟨hexec, fun hq => ?_, fun q => ⟨(keeps_examine _).home q, (keeps_examine _).report q⟩⟩
  exact hexec.trans (congrArg Host.Outcome.next (examine_of_empty (by exact hq)))

/-! ### GO (R55, R56) -/

theorem exec_go {s : State} (h : s.accepts) {n : Byte} {p : Ctx} (hn : n.toNat = p.val) :
    exec (.go n) s = .next
      (match (s.ctx p).goVerdict none with
       | .take => (s.ack (.go n)).takeGo p none
       | .busy => s.refuse (.go n) .busy
       | .wrongPhase => s.refuse (.go n) .state
       | .noCue => s.refuse (.go n) .noCue
       | .faulted => s.refuse (.go n) .faulted) := by
  refine exec_of_served h (r := .go n) ?_
  rw [State.takeRequest, State.takeGoRequest, byteFin_eq_some hn]
  rfl

theorem exec_goWithPointer {s : State} (h : s.accepts) {n : Byte} {p : Ctx} (hn : n.toNat = p.val)
    (field : Half) :
    exec (.goWithPointer n field) s = .next
      (match (s.ctx p).goVerdict (some field) with
       | .take => (s.ack (.goWithPointer n field)).enterFetch p field
       | .busy => s.refuse (.goWithPointer n field) .busy
       | .wrongPhase => s.refuse (.goWithPointer n field) .state
       | .noCue => s.refuse (.goWithPointer n field) .noCue
       | .faulted => s.refuse (.goWithPointer n field) .faulted) := by
  refine exec_of_served h (r := .goWithPointer n field) ?_
  rw [State.takeRequest, State.takeGoRequest, byteFin_eq_some hn]
  rfl

theorem takeGo_of_running {s : State} {p : Ctx} {cue : Cue} {at_ : CuePhase}
    (h : (s.ctx p).activity = .running cue at_) : s.takeGo p none = s.completeNormally p cue := by
  unfold State.takeGo
  rw [h]

theorem takeGo_of_idle {s : State} {p : Ctx} (h : (s.ctx p).activity = .idle) :
    s.takeGo p none = s.enterFetch p (s.ctx p).home := by
  unfold State.takeGo
  rw [h]

/-- Settles O14. -/
theorem goIsAnsweredByPhase : Obligations.GoIsAnsweredByPhase := by
  refine ⟨fun s n p h hn => ?_, fun s n p field h hn => ?_⟩
  · rw [exec_go h hn, Context.goVerdict]
    cases ha : (s.ctx p).activity with
    | idle =>
      rw [takeGo_of_idle (s := s.ack (.go n)) ha]
      by_cases he : ptrEnd (s.ctx p).home = true
      · simp [he]
      · simp [he]
        rfl
    | running cue at_ => rw [takeGo_of_running (s := s.ack (.go n)) ha]
    | fetch _ _ => rfl
    | paused _ _ => rfl
    | releasing => rfl
    | faulted _ _ => rfl
  · rw [exec_goWithPointer h hn, Context.goVerdict]
    cases (s.ctx p).activity <;> rfl

end Sys2Proof.Machine
end

section
/-! What each operation of a context leaves in the rest of the part. -/

namespace Sys2Proof.Machine

/-- A release of all of a context's claims reaches the others' claims nowhere (R92). -/
theorem releaseAll_get (s : State) (p : Ctx) (fade : Nat) (ch : Chan) (who : Claimant) :
    ((s.releaseAll p fade).mixCh ch).claims.get who
      = if who = .ctx p then ((s.mixCh ch).claims.get who).bind fun c => c.release fade
        else (s.mixCh ch).claims.get who := by
  rw [State.releaseAll, (updateClaims_mixCh s _ ch).1, ClaimSet.get_update]
  split
  · rfl
  · exact Option.bind_fun_some _

theorem held_releaseAll (s : State) (p : Ctx) (fade : Nat) :
    (s.releaseAll p fade).mix.held = s.mix.held := by
  rw [State.releaseAll, held_updateClaims]

theorem ctxStep_releaseAll (p : Ctx) (s : State) (fade : Nat) : CtxStep p s (s.releaseAll p fade) := by
  have hm := mixOnly_releaseAll s p fade
  exact { keeps_releaseAll s p fade with
    samePosts := hm.posts
    ctx := fun q _ => hm.ctx q
    claims := fun ch c hc => (releaseAll_get s p fade ch c).trans (if_neg hc)
    held := fun q _ => by rw [held_releaseAll] }

theorem ctxStep_takeClaimsGone (p : Ctx) (s : State) : CtxStep p s (s.takeClaimsGone p) := by
  unfold State.takeClaimsGone
  split
  · exact ctxStep_enterIdle p s _
  · exact .refl p s

theorem ctxStep_releaseFrom (p : Ctx) (s : State) (fade : Nat) : CtxStep p s (s.releaseFrom p fade) := by
  unfold State.releaseFrom
  dsimp only
  split
  · exact ctxStep_releaseAll p s fade
  · exact (ctxStep_releaseAll p s fade).trans (ctxStep_takeClaimsGone p _)

theorem ctxStep_takeRelease (p : Ctx) (s : State) (fade : Nat) : CtxStep p s (s.takeRelease p fade) := by
  have henter : ∀ u : State, CtxStep p u ((u.enter p .releasing).releaseFrom p fade) := fun u =>
    (ctxStep_enter p u _).trans (ctxStep_releaseFrom p _ fade)
  unfold State.takeRelease
  split
  · split
    · exact henter s
    · exact .refl p s
  · exact .refl p s
  · exact henter s
  · exact (ctxStep_endHold p s).trans (henter _)
  · exact ctxStep_releaseFrom p s fade
  · exact (ctxStep_endHold p s).trans (henter _)

theorem phaseStep_takeGo (p : Ctx) (s : State) (pointer : Option Half) :
    PhaseStep p s (s.takeGo p pointer) := by
  unfold State.takeGo
  split
  · exact phaseStep_enterFetch p s _
  · exact phaseStep_completeNormally p s _
  · exact phaseStep_enterFetch p s _

theorem ctxStep_deliver (p : Ctx) (s : State) (d : Delivery) : CtxStep p s (s.deliver p d) := by
  cases d with
  | go pointer => exact (phaseStep_takeGo p s pointer).toCtxStep
  | release fade => exact ctxStep_takeRelease p s fade
  | stop => exact ctxStep_takeStop p s

theorem phaseStep_endCount (p : Ctx) (s : State) : PhaseStep p s (s.endCount p) := by
  unfold State.endCount
  split
  · exact phaseStep_completeFade p s _
  · exact phaseStep_completeNormally p s _
  · exact phaseStep_enterFetch p s _
  · exact .refl p s

theorem ctxStep_takeResume (p : Ctx) (s : State) (cue : Cue) (saved : CuePhase) :
    CtxStep p s (s.takeResume p cue saved) := by
  have h := ctxStep_endHold p s
  have henter : ∀ a, CtxStep p s ((s.endHold p).enter p a) := fun a => h.trans (ctxStep_enter p _ a)
  have hdone : ∀ a, CtxStep p s (((s.endHold p).enter p a).completeNormally p cue) := fun a =>
    (henter a).trans (phaseStep_completeNormally p _ cue).toCtxStep
  cases saved with
  | fade n => exact h.trans (phaseStep_enterFade p _ cue n).toCtxStep
  | hold n =>
    simp only [State.takeResume]
    split
    · exact hdone _
    · exact henter _
  | wait w =>
    cases w with
    | event e t f =>
      simp only [State.takeResume]
      split
      · exact hdone _
      · exact henter _
    | go => exact henter _

end Sys2Proof.Machine
end

section
/-! PAUSE and RESUME (O15), and the completions of a cue (O21, O29). -/

namespace Sys2Proof.Machine

/-! ### PAUSE and RESUME (R57, R59) -/

section
variable {s : State} (h : s.accepts) {n : Byte} {p : Ctx} (hn : n.toNat = p.val)
include h hn

theorem exec_pause : exec (.pause n) s = .next
    (match (s.ctx p).activity with
     | .running cue at_ => ((s.ack (.pause n)).enter p (.paused cue at_)).holdClaims p
     | .fetch res _ => (s.ack (.pause n)).modCtx p fun c => { c with activity := .fetch res true }
     | _ => s.refuse (.pause n) .state) := by
  refine exec_of_served h (r := .pause n) ?_
  rw [State.takeRequest, State.takePauseRequest, byteFin_eq_some hn]
  rfl

theorem exec_resume : exec (.resume n) s = .next
    (match (s.ctx p).activity with
     | .paused cue saved => (s.ack (.resume n)).takeResume p cue saved
     | _ => s.refuse (.resume n) .state) := by
  refine exec_of_served h (r := .resume n) ?_
  rw [State.takeRequest, State.takeResumeRequest, byteFin_eq_some hn]
  rfl

end

/-- Settles O15. -/
theorem pauseAndResume : Obligations.PauseAndResume := by
  intro s n p h hn
  refine ⟨(exec_pause h hn).trans (congrArg Host.Outcome.next ?_),
    (exec_resume h hn).trans (congrArg Host.Outcome.next ?_)⟩
  · cases (s.ctx p).activity <;> rfl
  · cases (s.ctx p).activity with
    | paused cue saved =>
      cases saved with
      | fade k => cases k <;> rfl
      | hold k => cases k <;> rfl
      | wait w => cases w <;> rfl
    | idle => rfl
    | fetch _ _ => rfl
    | running _ _ => rfl
    | releasing => rfl
    | faulted _ _ => rfl

/-! ### Completions (R49 to R53) -/

theorem enter_activity (s : State) (p : Ctx) (a : Activity) : ((s.enter p a).ctx p).activity = a := by
  simp [State.enter]

theorem enterFetch_hasFollowed (s : State) (p : Ctx) (field : Half) :
    (s.enterFetch p field).hasFollowed p field := by
  unfold State.hasFollowed State.enterFetch
  rw [examineField_activity]
  rfl

theorem enterFetch_cells (s : State) (p : Ctx) (field : Half) : (s.enterFetch p field).cells = s.cells :=
  examineField_cells _ p field 0 false

/-- A normal completion makes the loop operation and follows the field it chooses (R52, R82). -/
theorem completeNormally_hasCompleted (s : State) (p : Ctx) (cue : Cue) :
    s.hasCompleted (s.completeNormally p cue) p cue := by
  unfold State.hasCompleted State.completeNormally loopOperation
  cases cue.loop with
  | none => exact ⟨enterFetch_cells s p _, enterFetch_hasFollowed s p _⟩
  | some b =>
    dsimp only
    split
    · exact ⟨enterFetch_cells _ p _, enterFetch_hasFollowed _ p _⟩
    · exact ⟨enterFetch_cells _ p _, enterFetch_hasFollowed _ p _⟩

/-- A FADE that ends at a wait block (R50, R75). -/
theorem completeFade_of_wait {cue : Cue} {w : WaitBlock} (h : cue.wait = some w) (s : State) (p : Ctx) :
    s.completeFade p cue = if (s.ctx p).hasArrived w.event then
        (s.enter p (.running cue (.wait (.event w.event w.timeout w.pointer)))).completeNormally p cue
      else s.enter p (.running cue (.wait (.event w.event w.timeout w.pointer))) := by
  rw [State.completeFade, h]

/-- A FADE that ends at a hold for GO or a hold of a number of ticks (R49). -/
theorem completeFade_of_hold {cue : Cue} (h : cue.wait = none) (s : State) (p : Ctx) :
    s.completeFade p cue = if cue.hold = 65535 then s.enter p (.running cue (.wait .go))
      else if cue.hold = 0 then (s.enter p (.running cue (.hold cue.hold))).completeNormally p cue
      else s.enter p (.running cue (.hold cue.hold)) := by
  rw [State.completeFade, h]
  rfl

/-- Settles O21. -/
theorem cuesComplete : Obligations.CuesComplete := by
  intro s p cue
  have hdone := fun a => completeNormally_hasCompleted (s.enter p a) p cue
  refine ⟨completeNormally_hasCompleted s p cue, (phaseStep_completeNormally p s cue).sameBesides,
    (phaseStep_completeFade p s cue).sameBesides, fun w hw => ?_, fun hw => ?_⟩
  · rw [completeFade_of_wait hw, Context.hasArrived]
    split
    · exact hdone _
    · exact ⟨enter_activity s p _, rfl, rfl⟩
  · rw [completeFade_of_hold hw]
    split
    · exact ⟨enter_activity s p _, rfl, rfl⟩
    · split
      · exact hdone _
      · exact ⟨enter_activity s p _, rfl, rfl⟩

/-! ### The tick that ends a count (R48 to R50, R53, R77) -/

theorem tickEnds_iff (s : State) (p : Ctx) : s.tickEnds p = true
    ↔ 0 < s.owed.play ∧ ctxIn p s.owed.taken = false ∧ (s.ctx p).lastTick = true := by
  simp [State.tickEnds, and_assoc]

/-- The tick taken at one context: its count ends, and the tick is owed to it no more (log 7). -/
theorem tickOne_eq (s : State) (p : Ctx) : s.tickOne p
    = { s.endCount p with owed := { s.owed with taken := s.owed.taken ||| ctxBit p } } := by
  unfold State.tickOne State.modOwed
  rw [(keeps_endCount s p).owed]

/-- The command of a tick that ends a count, at a context in the phase that the command names. -/
theorem next_of_tickEnds {s t : State} {p : Ctx} {ph : Phase} {m : String} (hplay : 0 < s.owed.play)
    (htaken : ctxIn p s.owed.taken = false) (hph : (s.ctx p).phase = ph)
    (hlast : (s.ctx p).lastTick = true) (ht : s.endCount p = t) :
    (if (s.ctx p).phase = ph ∧ s.tickEnds p then Host.Outcome.next (s.tickOne p) else cannotOccur m)
      = .next { t with owed := { s.owed with taken := s.owed.taken ||| ctxBit p } } := by
  rw [if_pos ⟨hph, (tickEnds_iff s p).2 ⟨hplay, htaken, hlast⟩⟩, tickOne_eq, ht]

/-- Settles O29. -/
theorem countsEnd : Obligations.CountsEnd := by
  intro s p hplay htaken
  refine ⟨fun cue ha => ?_, fun cue ha => ?_, fun cue e f ha => ?_⟩
  all_goals
    exact next_of_tickEnds hplay htaken (by rw [Context.phase, ha]; rfl) (by rw [Context.lastTick, ha]; rfl)
      (by rw [State.endCount, ha])

end Sys2Proof.Machine
end

section
/-! What a request to one context leaves as it is (O18). -/

namespace Sys2Proof.Machine

/-! ### The arrival set and the counter cells -/

/-- Of the arrival set of context p and of the counter cells, a step changes the loop block's cell alone
(R72, R82). -/
structure LoopStep (loop : Option LoopBlock) (p : Ctx) (s t : State) : Prop where
  arrivals : (t.ctx p).arrivals = (s.ctx p).arrivals
  cells : ∀ k : Fin 16, (∀ b, loop = some b → k ≠ b.cell) → t.cells[k] = s.cells[k]

section
variable {p : Ctx} {s t u : State} {loop : Option LoopBlock}

theorem LoopStep.trans (h : LoopStep loop p s t) (k : LoopStep loop p t u) : LoopStep loop p s u :=
  ⟨k.arrivals.trans h.arrivals, fun c hc => (k.cells c hc).trans (h.cells c hc)⟩

theorem LoopStep.of_same (h : (t.ctx p).arrivals = (s.ctx p).arrivals) (hc : t.cells = s.cells) :
    LoopStep loop p s t := ⟨h, fun _ _ => by rw [hc]⟩

theorem LoopStep.refl : LoopStep loop p s s := .of_same rfl rfl

/-- Without a loop block no cell changes. -/
theorem LoopStep.cells_eq (h : LoopStep none p s t) : t.cells = s.cells :=
  Vector.ext fun k hk => h.cells ⟨k, hk⟩ fun _ hb => nomatch hb

end

section
variable (p : Ctx) (s : State) (loop : Option LoopBlock)

theorem loopStep_modCtx {f : Context → Context} (h : ∀ c, (f c).arrivals = c.arrivals) :
    LoopStep loop p s (s.modCtx p f) :=
  .of_same (by rw [State.modCtx_ctx, if_pos rfl, h]) rfl

theorem loopStep_enter (a : Activity) : LoopStep loop p s (s.enter p a) :=
  .trans (t := s.modCtx p fun c => { c with activity := a }) (loopStep_modCtx p s loop fun _ => rfl)
    (.of_same rfl rfl)

theorem loopStep_enterIdle (way : Way) : LoopStep loop p s (s.enterIdle p way) :=
  .of_same (by rw [enterIdle_ctx, if_pos rfl]) (enterIdle_cells s p way)

theorem loopStep_enterFaulted (reason : FaultReason) (word : Nat) :
    LoopStep loop p s (s.enterFaulted p reason word) :=
  .of_same (by rw [enterFaulted_ctx, if_pos rfl]) (enterFaulted_cells s p reason word)

theorem loopStep_resolved (a : Activity) : LoopStep loop p s (s.resolved p a) := by
  unfold State.resolved
  split
  · exact loopStep_enterFaulted p s loop _ _
  · exact loopStep_enterIdle p s loop _
  · exact loopStep_modCtx p s loop fun _ => rfl

theorem loopStep_arbitrate : LoopStep loop p s s.arbitrate :=
  .of_same (by rw [arbitrate_eq_modStore]; rfl) (cells_arbitrate s)

theorem loopStep_enterFetch (field : Half) : LoopStep loop p s (s.enterFetch p field) :=
  .trans (t := s.report p .fetch) (.of_same rfl rfl)
    (examineField_of_resolved (P := LoopStep loop p (s.report p .fetch))
      (fun u hu => hu.trans (loopStep_arbitrate p u loop)) (loopStep_resolved p _ loop _))

theorem loopStep_mixOnly {t : State} (h : MixOnly s t) : LoopStep loop p s t :=
  .of_same (by rw [h.ctx]) h.cells

theorem loopStep_setPort (port : Option PortOp) :
    LoopStep loop p s (s.modStore fun st => { st with port := port }) := .of_same rfl rfl

theorem loopStep_takeClaimsGone : LoopStep loop p s (s.takeClaimsGone p) := by
  unfold State.takeClaimsGone
  split
  · exact loopStep_enterIdle p s loop _
  · exact .refl

theorem loopStep_releaseFrom (fade : Nat) : LoopStep loop p s (s.releaseFrom p fade) := by
  have h := loopStep_mixOnly p s loop (mixOnly_releaseAll s p fade)
  unfold State.releaseFrom
  dsimp only
  split
  · exact h
  · exact h.trans (loopStep_takeClaimsGone p _ loop)

theorem loopStep_takeRelease (fade : Nat) : LoopStep loop p s (s.takeRelease p fade) := by
  have henter : ∀ u : State, LoopStep loop p u ((u.enter p .releasing).releaseFrom p fade) := fun u =>
    (loopStep_enter p u loop _).trans (loopStep_releaseFrom p _ loop fade)
  have hend := loopStep_mixOnly p s loop (mixOnly_endHold s p)
  unfold State.takeRelease
  split
  · split
    · exact henter s
    · exact .refl
  · exact .refl
  · exact henter s
  · exact hend.trans (henter _)
  · exact loopStep_releaseFrom p s loop fade
  · exact hend.trans (henter _)

theorem loopStep_takeStop : LoopStep loop p s (s.takeStop p) := by
  have h := loopStep_mixOnly p s loop (mixOnly_removeClaims s p)
  by_cases hi : (s.ctx p).activity = .idle
  · rw [takeStop_of_idle hi]
    exact h
  · obtain ⟨port, ht, -⟩ := takeStop_of_active hi
    rw [ht]
    exact (h.trans (loopStep_setPort p _ loop port)).trans (loopStep_enterIdle p _ loop _)

theorem loopStep_setCell {b : LoopBlock} (v : Byte) :
    LoopStep (some b) p s { s with cells := s.cells.set b.cell v } :=
  ⟨rfl, fun k hk => Vector.getElem_set_ne b.cell.isLt k.isLt fun hkb => hk b rfl (Fin.ext hkb.symm)⟩

/-- A normal completion changes at most its own loop block's cell (R52, R82). -/
theorem loopStep_completeNormally (cue : Cue) : LoopStep cue.loop p s (s.completeNormally p cue) := by
  unfold State.completeNormally
  cases cue.loop with
  | none => exact loopStep_enterFetch p s _ _
  | some b => exact (loopStep_setCell p s _).trans (loopStep_enterFetch p _ _ _)

theorem loopStep_completeFade (cue : Cue) : LoopStep cue.loop p s (s.completeFade p cue) := by
  have h := fun a => loopStep_enter p s cue.loop a
  have hdone := fun a => (h a).trans (loopStep_completeNormally p (s.enter p a) cue)
  cases hw : cue.wait with
  | some w =>
    rw [completeFade_of_wait hw]
    split
    · exact hdone _
    · exact h _
  | none =>
    rw [completeFade_of_hold hw]
    split
    · exact h _
    · split
      · exact hdone _
      · exact h _

theorem loopStep_takeResume (cue : Cue) (saved : CuePhase) :
    LoopStep cue.loop p s (s.takeResume p cue saved) := by
  have hend := loopStep_mixOnly p s cue.loop (mixOnly_endHold s p)
  have henter := fun a => hend.trans (loopStep_enter p _ cue.loop a)
  have hdone := fun a => (henter a).trans (loopStep_completeNormally p _ cue)
  cases saved with
  | fade n =>
    simp only [State.takeResume, State.enterFade]
    split
    · exact (henter _).trans (loopStep_completeFade p _ cue)
    · exact henter _
  | hold n =>
    simp only [State.takeResume]
    split
    · exact hdone _
    · exact henter _
  | wait w =>
    cases w with
    | event e t f =>
      simp only [State.takeResume]
      split
      · exact hdone _
      · exact henter _
    | go => exact henter _

/-- A GO completes the cue that runs, and follows the context's pointer in any other phase. -/
theorem loopStep_takeGo (pointer : Option Half) :
    LoopStep ((s.ctx p).cue.bind Cue.loop) p s (s.takeGo p pointer) := by
  unfold State.takeGo
  split
  · exact loopStep_enterFetch p s _ _
  · next cue at_ ha =>
    have hc : (s.ctx p).cue = some cue := by rw [Context.cue, ha]
    rw [hc]
    exact loopStep_completeNormally p s cue
  · exact loopStep_enterFetch p s _ _

end

/-! ### Requests to a context -/

/-- All that is said of a request's answer to a context: a reply, then a step of the context. -/
structure ContextAnswered (p : Ctx) (s t : State) : Prop where
  step : ∃ x : Reply, CtxStep p (s.reply x) t
  loop : LoopStep ((s.ctx p).cue.bind Cue.loop) p s t

section
variable {p : Ctx} {s t : State}

theorem contextAnswered_reply (p : Ctx) (s : State) (x : Reply) : ContextAnswered p s (s.reply x) :=
  ⟨⟨x, .refl p _⟩, .of_same rfl rfl⟩

theorem ContextAnswered.of_ack {r : Request} (h : CtxStep p (s.ack r) t)
    (hl : LoopStep ((s.ctx p).cue.bind Cue.loop) p (s.ack r) t) : ContextAnswered p s t :=
  ⟨⟨_, h⟩, LoopStep.trans (t := s.ack r) (.of_same rfl rfl) hl⟩

theorem sameBesides_of_reply {x : Reply} (h : (s.reply x).sameBesides t p) : s.sameBesides t p := by
  rw [reply_eq] at h
  exact h

theorem ContextAnswered.leaves (h : ContextAnswered p s t) :
    s.sameBesides t p ∧ (t.ctx p).home = (s.ctx p).home ∧ (t.ctx p).report = (s.ctx p).report
      ∧ (t.ctx p).arrivals = (s.ctx p).arrivals ∧ t.link.service = none
      ∧ (t.cells = s.cells ∨ ∃ cue b, (s.ctx p).cue = some cue ∧ cue.loop = some b
          ∧ ∀ k : Fin 16, k ≠ b.cell → t.cells[k] = s.cells[k]) := by
  obtain ⟨x, hx⟩ := h.step
  refine ⟨sameBesides_of_reply hx.sameBesides, hx.home p, hx.report p, h.loop.arrivals, ?_, ?_⟩
  · rw [hx.service, reply_eq]
  · cases hb : (s.ctx p).cue.bind Cue.loop with
    | none => exact .inl (hb ▸ h.loop).cells_eq
    | some b =>
      obtain ⟨cue, hcue, hloop⟩ := Option.bind_eq_some_iff.1 hb
      refine .inr ⟨cue, b, hcue, hloop, fun k hk => h.loop.cells k fun b' hb' => ?_⟩
      rw [hb, Option.some.injEq] at hb'
      rwa [← hb']

end

section
variable {s t : State} (h : s.accepts) {n : Byte} {p : Ctx} (hn : n.toNat = p.val)
include h hn

theorem contextAnswered_go (ht : exec (.go n) s = .next t) : ContextAnswered p s t := by
  rw [exec_go h hn] at ht
  cases ht
  split
  · exact .of_ack (phaseStep_takeGo p _ none).toCtxStep (loopStep_takeGo p (s.ack (.go n)) none)
  all_goals exact contextAnswered_reply p s _

theorem contextAnswered_goWithPointer {field : Half} (ht : exec (.goWithPointer n field) s = .next t) :
    ContextAnswered p s t := by
  rw [exec_goWithPointer h hn] at ht
  cases ht
  split
  · exact .of_ack (phaseStep_enterFetch p _ field).toCtxStep (loopStep_enterFetch p _ _ field)
  all_goals exact contextAnswered_reply p s _

theorem contextAnswered_pause (ht : exec (.pause n) s = .next t) : ContextAnswered p s t := by
  rw [exec_pause h hn] at ht
  cases ht
  split
  · exact .of_ack ((ctxStep_enter p _ _).trans (ctxStep_holdClaims p _))
      ((loopStep_enter p _ _ _).trans (.of_same rfl rfl))
  · exact .of_ack (ctxStep_setActivity p _ _) (loopStep_modCtx p _ _ fun _ => rfl)
  · exact contextAnswered_reply p s _

theorem contextAnswered_resume (ht : exec (.resume n) s = .next t) : ContextAnswered p s t := by
  rw [exec_resume h hn] at ht
  cases ht
  split
  · next cue saved ha =>
    refine .of_ack (ctxStep_takeResume p _ cue saved) ?_
    have hc : (s.ctx p).cue = some cue := by rw [Context.cue, ha]
    rw [hc]
    exact loopStep_takeResume p _ cue saved
  · exact contextAnswered_reply p s _

theorem exec_release {fade : Half} (hf : fade.toNat ≠ 65535) : exec (.release n fade) s = .next
    (match (s.ctx p).activity with
     | .fetch _ _ => s.refuse (.release n fade) .busy
     | _ => (s.ack (.release n fade)).takeRelease p fade.toNat) := by
  refine exec_of_served h (r := .release n fade) ?_
  rw [State.takeRequest, State.takeReleaseRequest, byteFin_eq_some hn]
  exact (if_neg hf).trans rfl

theorem contextAnswered_release {fade : Half} (ht : exec (.release n fade) s = .next t) :
    ContextAnswered p s t := by
  by_cases hf : fade.toNat = 65535
  · rw [release_refused_noFade h n hf] at ht
    cases ht
    exact contextAnswered_reply p s _
  · rw [exec_release h hn hf] at ht
    cases ht
    split
    · exact contextAnswered_reply p s _
    · exact .of_ack (ctxStep_takeRelease p _ _) (loopStep_takeRelease p _ _ _)

theorem contextAnswered_stop (ht : exec (.stop n) s = .next t) : ContextAnswered p s t := by
  rw [exec_stop h hn] at ht
  cases ht
  exact .of_ack (ctxStep_takeStop p _) (loopStep_takeStop p _ _)

end

/-- Settles O18. -/
theorem contextRequestsLeaveTheRest : Obligations.ContextRequestsLeaveTheRest := by
  intro s t n p field fade c h hn hc ht
  simp only [List.mem_cons, List.not_mem_nil, or_false] at hc
  obtain rfl | rfl | rfl | rfl | rfl | rfl := hc
  · exact (contextAnswered_go h hn ht).leaves
  · exact (contextAnswered_goWithPointer h hn ht).leaves
  · exact (contextAnswered_pause h hn ht).leaves
  · exact (contextAnswered_resume h hn ht).leaves
  · exact (contextAnswered_stop h hn ht).leaves
  · exact (contextAnswered_release h hn ht).leaves

end Sys2Proof.Machine
end

section
/-! RELEASE (O17). -/

namespace Sys2Proof.Machine

/-! ### What comes before the claims are released (R61) -/

/-- The context stands in RELEASING, with its report where it has just entered it and the hold of its claims
ended; its claims are as they were. -/
structure ReleaseBegun (p : Ctx) (s t : State) : Prop where
  step : CtxStep p s t
  channels : t.mix.channels = s.mix.channels
  cells : t.cells = s.cells
  activity : (t.ctx p).activity = .releasing
  current : (t.ctx p).current = (s.ctx p).current
  reports : t.reports = s.reports ++ (if (s.ctx p).activity = .releasing then [] else [⟨p, .releasing⟩])
  held : ctxIn p t.mix.held = (ctxIn p s.mix.held
    && (s.ctx p).phase != .paused && (s.ctx p).phase != .faulted)
  link : t.link = s.link

section
variable {s : State} {p : Ctx}

/-- The entry of RELEASING, the held set being as it should be. -/
theorem releaseBegun_enter {u : State} (hm : MixOnly s u) (hs : CtxStep p s u)
    (hc : u.mix.channels = s.mix.channels) (ha : (s.ctx p).activity ≠ .releasing)
    (hh : ctxIn p u.mix.held = (ctxIn p s.mix.held
      && (s.ctx p).phase != .paused && (s.ctx p).phase != .faulted)) :
    ReleaseBegun p s (u.enter p .releasing) where
  step := hs.trans (ctxStep_enter p u _)
  channels := hc
  cells := hm.cells
  activity := enter_activity u p _
  current := by simp [State.enter, hm.ctx]
  reports := by rw [if_neg ha, ← hm.reports]; rfl
  held := hh
  link := hm.link

theorem releaseBegun_refl (ha : (s.ctx p).activity = .releasing) : ReleaseBegun p s s where
  step := .refl p s
  channels := rfl
  cells := rfl
  activity := ha
  current := rfl
  reports := by rw [if_pos ha, List.append_nil]
  held := by
    have hph : (s.ctx p).phase = .releasing := by rw [Context.phase, ha]; rfl
    rw [hph]
    cases ctxIn p s.mix.held <;> rfl
  link := rfl

/-- A context that holds no claims in hold enters RELEASING at once. -/
theorem releaseBegun_of_unheld (ha : (s.ctx p).activity ≠ .releasing)
    (hp : (s.ctx p).phase ≠ .paused) (hf : (s.ctx p).phase ≠ .faulted) :
    ReleaseBegun p s (s.enter p .releasing) :=
  releaseBegun_enter (.refl s) (.refl p s) rfl ha (by
    rw [bne_iff_ne.2 hp, bne_iff_ne.2 hf, Bool.and_true, Bool.and_true])

/-- In PAUSED and FAULTED the hold ends first (R58, R94). -/
theorem releaseBegun_of_held (ha : (s.ctx p).activity ≠ .releasing)
    (h : (s.ctx p).phase = .paused ∨ (s.ctx p).phase = .faulted) :
    ReleaseBegun p s ((s.endHold p).enter p .releasing) := by
  refine releaseBegun_enter (mixOnly_endHold s p) (ctxStep_endHold p s) rfl ha ?_
  rw [held_endHold, ctxIn_ctxOut]
  rcases h with h | h <;> simp [h]

/-- A RELEASE that is taken, but in IDLE without a claim, ends with the release of the claims in RELEASING. -/
theorem takeRelease_eq_releaseFrom (hf : ∀ res pp, (s.ctx p).activity ≠ .fetch res pp)
    (hi : (s.ctx p).activity = .idle → s.mix.holdsClaim p = true) (fade : Nat) :
    ∃ v, ReleaseBegun p s v ∧ s.takeRelease p fade = v.releaseFrom p fade := by
  unfold State.takeRelease
  cases ha : (s.ctx p).activity with
  | idle =>
    refine ⟨_, releaseBegun_of_unheld ?_ ?_ ?_, if_pos (hi ha)⟩ <;> simp [Context.phase, Activity.phase, ha]
  | fetch res pp => exact absurd ha (hf res pp)
  | running cue at_ =>
    refine ⟨_, releaseBegun_of_unheld ?_ ?_ ?_, rfl⟩
    · simp [ha]
    · cases at_ <;> simp [Context.phase, Activity.phase, ha]
    · cases at_ <;> simp [Context.phase, Activity.phase, ha]
  | paused cue at_ =>
    exact ⟨_, releaseBegun_of_held (by simp [ha]) (.inl (by simp [Context.phase, Activity.phase, ha])), rfl⟩
  | releasing => exact ⟨s, releaseBegun_refl ha, rfl⟩
  | faulted reason w =>
    exact ⟨_, releaseBegun_of_held (by simp [ha]) (.inr (by simp [Context.phase, Activity.phase, ha])), rfl⟩

/-! ### The release of the claims (R61, R62, R92, R95) -/

/-- A context in RELEASING whose claims are released enters IDLE where it then holds none. -/
theorem releaseFrom_of_releasing (ha : (s.ctx p).activity = .releasing) (fade : Nat) :
    s.releaseFrom p fade = if (s.releaseAll p fade).mix.holdsClaim p then s.releaseAll p fade
      else (s.releaseAll p fade).enterIdle p .released := by
  have hgone : (s.releaseAll p fade).takeClaimsGone p = (s.releaseAll p fade).enterIdle p .released := by
    rw [State.takeClaimsGone, (mixOnly_releaseAll s p fade).ctx, ha]
  rw [State.releaseFrom, hgone]

theorem releaseFrom_mix (ha : (s.ctx p).activity = .releasing) (fade : Nat) :
    (s.releaseFrom p fade).mix = (s.releaseAll p fade).mix := by
  rw [releaseFrom_of_releasing ha]
  split
  · rfl
  · exact enterIdle_mix _ p _

/-- What the end of a release shows of its context (R62, R63). -/
theorem releaseFrom_shows (ha : (s.ctx p).activity = .releasing) (fade : Nat) :
    let t := s.releaseFrom p fade
    (t.ctx p).activity = (if t.mix.holdsClaim p then .releasing else .idle)
      ∧ (t.ctx p).current = (if t.mix.holdsClaim p then (s.ctx p).current else none)
      ∧ t.reports = s.reports ++ (if t.mix.holdsClaim p then [] else [⟨p, .idle⟩])
      ∧ t.link = (if t.mix.holdsClaim p = false ∧ (s.ctx p).report = true then
          s.notify (.contextIdle p .released (s.ctx p).current) else s).link := by
  intro t
  have hm := mixOnly_releaseAll s p fade
  have ht : t = _ := releaseFrom_of_releasing ha fade
  have hmix : t.mix = (s.releaseAll p fade).mix := releaseFrom_mix ha fade
  rw [hmix]
  by_cases hc : (s.releaseAll p fade).mix.holdsClaim p = true
  · rw [if_pos hc] at ht
    simp only [hc, if_true, List.append_nil, ht, hm.ctx, ha, hm.reports, hm.link, true_and,
      Bool.true_eq_false, false_and, if_false]
  · rw [if_neg hc] at ht
    rw [Bool.not_eq_true] at hc
    simp only [hc, Bool.false_eq_true, if_false, ht, enterIdle_ctx, if_true, enterIdle_reports, hm.reports,
      enterIdle_link, hm.ctx, true_and]
    split
    · exact notify_link_congr hm.link hm.clk _
    · exact hm.link

end

/-- Settles O17. -/
theorem releaseFadesTheClaims : Obligations.ReleaseFadesTheClaims := by
  intro s n p fade h hn hfade
  have hexec := exec_release h hn hfade
  refine ⟨fun res pp hf => ?_, fun hi hc => ?_, fun hf hi => ?_⟩
  · rw [hexec, hf]
  · rw [hexec, hi]
    have ht : (s.ack (.release n fade)).takeRelease p fade.toNat = s.ack (.release n fade) := by
      rw [State.takeRelease, show ((s.ack (.release n fade)).ctx p).activity = .idle from hi]
      exact if_neg (by rw [Bool.not_eq_true]; exact hc)
    exact congrArg Host.Outcome.next ht
  · obtain ⟨u, hu⟩ : ∃ u, u = s.ack (.release n fade) := ⟨_, rfl⟩
    have hctx : u.ctx p = s.ctx p := by rw [hu]; rfl
    have hmix : u.mix = s.mix := by rw [hu]; rfl
    obtain ⟨v, hv, ht⟩ := takeRelease_eq_releaseFrom (s := u) (p := p) (by rwa [hctx])
      (by rwa [hctx, hmix]) fade.toNat
    obtain ⟨hactivity, hcurrent, hreports, hlink⟩ := releaseFrom_shows hv.activity fade.toNat
    have hstep : CtxStep p u (v.releaseFrom p fade.toNat) := hv.step.trans (ctxStep_releaseFrom p v _)
    have hbesides : s.sameBesides (v.releaseFrom p fade.toNat) p :=
      sameBesides_of_ack (r := .release n fade) (by rw [← hu]; exact hstep.sameBesides)
    have hcells : (v.releaseFrom p fade.toNat).cells = s.cells := by
      rw [(loopStep_releaseFrom p v none _).cells_eq, hv.cells, hu]
      rfl
    have hlast : v.reports
        = s.reports ++ (if (s.ctx p).activity = .releasing then [] else [⟨p, .releasing⟩]) := by
      rw [hv.reports, hctx, hu]
      rfl
    have hflag : (v.ctx p).report = (s.ctx p).report := by rw [hv.step.report p, hctx]
    refine ⟨_, ?_, hbesides, hcells, fun ch => ?_, hactivity, ?_, ?_, ?_, ?_⟩
    · rw [hexec, ← ht, hu]
      split
      · next res pp ha => exact absurd ha (hf res pp)
      · rfl
    · rw [State.mixCh, releaseFrom_mix hv.activity]
      show (((v.releaseAll p fade.toNat).mixCh ch).claims.get (.ctx p)) = _
      rw [releaseAll_get, if_pos rfl, State.mixCh, hv.channels, hmix]
      show ((s.mixCh ch).claims.get (.ctx p)).bind _ = _
      cases (s.mixCh ch).claims.get (.ctx p) <;> rfl
    · rw [hcurrent, hv.current, hctx]
    · rw [hreports, hlast]
    · rw [releaseFrom_mix hv.activity, held_releaseAll, hv.held, hctx, hmix]
    · rw [hlink, hv.current, hflag, hctx, ← hu]
      split
      · exact notify_link_congr hv.link hv.step.clk _
      · exact hv.link

end Sys2Proof.Machine
end

section
/-! A tick at the playback engine (R48, O28). -/

namespace Sys2Proof.Machine

/-! ### Orders -/

/-- The order that is picked, and how much of the free values it takes (log 9). -/
theorem anyOrder_state {α : Type} (s : State) (l : List α) :
    (s.anyOrder l).2 = { s with free := (s.anyOrder l).2.free } := by
  unfold State.anyOrder
  split <;> rfl

/-- Steps of several contexts leave every other context as it was. -/
theorem foldl_ctx_of_not_mem {f : State → Ctx → State} (h : ∀ p s, CtxStep p s (f s p)) {q : Ctx}
    {order : List Ctx} (hq : q ∉ order) (u : State) : (order.foldl f u).ctx q = u.ctx q := by
  induction order generalizing u with
  | nil => rfl
  | cons p ps ih =>
    obtain ⟨hqp, hq⟩ := not_or.1 (mt List.mem_cons.2 hq)
    rw [List.foldl_cons, ih hq, (h p u).ctx q hqp]

theorem allCtx_nodup : allCtx.Nodup := by decide

/-! ### The counts (R48) -/

/-- The contexts whose counts end at the tick now arriving (R48). -/
def State.endingContexts (s : State) : List Ctx :=
  s.dueContexts.filter fun p => (s.ctx p).lastTick

theorem mem_endingContexts {s : State} {p : Ctx} : p ∈ s.endingContexts
    ↔ ctxIn p s.owed.taken = false ∧ (s.ctx p).lastTick = true := by
  have hp : p ∈ allCtx := by revert p; decide
  simp [State.endingContexts, State.dueContexts, hp, and_comm]

theorem endingContexts_nodup (s : State) : s.endingContexts.Nodup :=
  (allCtx_nodup.filter _).filter _

/-- A context whose count ends does not lower it. -/
theorem countContexts_ctx_of_ending {s : State} {p : Ctx} (h : p ∈ s.endingContexts) :
    s.countContexts.ctx p = s.ctx p := by
  rw [countContexts_ctx, (mem_endingContexts.1 h).2, Bool.or_true, if_pos rfl]

/-- How the count of a context ends, by what it was doing when the tick arrived. -/
def State.finishCount (s u : State) (p : Ctx) : State :=
  match (s.ctx p).activity with
  | .running cue (.fade _) => u.completeFade p cue
  | .running cue (.hold _) => u.completeNormally p cue
  | .running _ (.wait (.event _ _ f)) => u.enterFetch p f
  | _ => u

theorem endCount_eq_finishCount {s u : State} {p : Ctx} (h : u.ctx p = s.ctx p) :
    u.endCount p = s.finishCount u p := by
  rw [State.endCount, h]
  rfl

/-- Each count ends in the context it was, whatever the order: no other context's step reaches it. -/
theorem foldl_endCount {s : State} {order : List Ctx} (hn : order.Nodup) {u : State}
    (h : ∀ p ∈ order, u.ctx p = s.ctx p) :
    order.foldl State.endCount u = order.foldl s.finishCount u := by
  induction order generalizing u with
  | nil => rfl
  | cons p ps ih =>
    obtain ⟨hp, hn⟩ := List.nodup_cons.1 hn
    rw [List.foldl_cons, List.foldl_cons, ← endCount_eq_finishCount (h p List.mem_cons_self)]
    refine ih hn fun q hq => ?_
    rw [(phaseStep_endCount p u).ctx q fun hqp => hp (hqp ▸ hq)]
    exact h q (List.mem_cons_of_mem _ hq)

theorem keeps_foldl_endCount (order : List Ctx) (u : State) :
    PlayKeeps u (order.foldl State.endCount u) :=
  PlayKeeps.foldl keeps_endCount order u

/-! ### The tick -/

/-- The counts lowered, and a number of free values taken (log 9). -/
def State.counted (s : State) (n : Nat) : State := { s.countContexts with free := n }

theorem counted_eq (s : State) (n : Nat) : s.counted n = { s with
    free := n
    contexts := Vector.ofFn fun p : Ctx =>
      if ctxIn p s.owed.taken || (!ctxIn p s.owed.taken && (s.ctx p).lastTick) then s.ctx p
      else (s.ctx p).countDown } := by
  have h : ∀ a b : Bool, (a || (!a && b)) = (a || b) := by decide
  simp only [h]
  rfl

/-- A tick at the playback engine: the other counts lowered, those that run out end, in some order. -/
theorem tickPlay_eq (s : State) : ∃ (order : List Ctx) (n : Nat), order.Perm s.endingContexts
    ∧ s.tickPlay = { order.foldl State.endCount (s.counted n) with
        owed := { s.owed with play := s.owed.play - 1, taken := 0 } } := by
  refine ⟨(s.countContexts.anyOrder s.endingContexts).1, (s.countContexts.anyOrder s.endingContexts).2.free,
    anyOrder_perm _ _, ?_⟩
  rw [State.counted, ← anyOrder_state]
  have howed : ∀ l : List Ctx, (l.foldl State.endCount (s.countContexts.anyOrder s.endingContexts).2).owed
      = s.owed :=
    fun l => (keeps_foldl_endCount l _).owed.trans (keeps_anyOrder _ _).owed
  unfold State.tickPlay State.modOwed
  dsimp only
  rw [← State.endingContexts, howed]

theorem countDown_of_fade {c : Context} {cue : Cue} {n : Nat} (h : c.activity = .running cue (.fade n)) :
    c.countDown = { c with activity := .running cue (.fade (n - 1)) } := by rw [Context.countDown, h]

theorem countDown_of_hold {c : Context} {cue : Cue} {n : Nat} (h : c.activity = .running cue (.hold n)) :
    c.countDown = { c with activity := .running cue (.hold (n - 1)) } := by rw [Context.countDown, h]

theorem countDown_of_event {c : Context} {cue : Cue} {e : EventId} {n : Nat} {f : Half}
    (h : c.activity = .running cue (.wait (.event e n f))) :
    c.countDown = { c with activity := .running cue (.wait (.event e (n - 1) f)) } := by
  rw [Context.countDown, h]

/-- What the tick leaves in a context whose count does not end. -/
theorem tickPlay_ctx {s t : State} {order : List Ctx} {n : Nat} (ho : order.Perm s.endingContexts)
    (ht : t.contexts = (order.foldl State.endCount (s.counted n)).contexts) {p : Ctx}
    (hp : p ∉ s.endingContexts) :
    t.ctx p = if ctxIn p s.owed.taken then s.ctx p else (s.ctx p).countDown := by
  have hfold : t.ctx p = s.countContexts.ctx p := by
    rw [State.ctx, ht]
    exact foldl_ctx_of_not_mem (fun q u => (phaseStep_endCount q u).toCtxStep)
      (fun hq => hp (ho.mem_iff.1 hq)) _
  rw [mem_endingContexts, not_and, Bool.not_eq_true] at hp
  rw [hfold, countContexts_ctx]
  cases htaken : ctxIn p s.owed.taken with
  | true => rfl
  | false => rw [hp htaken]; rfl

/-- Settles O28. -/
theorem tickLowersTheCounts : Obligations.TickLowersTheCounts := by
  intro s hplay
  obtain ⟨order, n, ho, ht⟩ := tickPlay_eq s
  have hctx : ∀ p, p ∉ s.endingContexts → s.tickPlay.ctx p
      = if ctxIn p s.owed.taken then s.ctx p else (s.ctx p).countDown :=
    fun p => tickPlay_ctx ho (by rw [ht])
  have hlowered : ∀ p, ctxIn p s.owed.taken = false → (s.ctx p).lastTick = false →
      s.tickPlay.ctx p = (s.ctx p).countDown := fun p htaken hl => by
    rw [hctx p fun hp => absurd ((mem_endingContexts.1 hp).2.symm.trans hl) (by decide), htaken]
    rfl
  refine ⟨s.tickPlay, if_pos hplay, by rw [ht], fun p htaken => ?_, fun p htaken => ?_, fun hl => ?_,
    order, n, ?_, ?_⟩
  · rw [hctx p fun hp => absurd (htaken.symm.trans (mem_endingContexts.1 hp).1) (by decide), if_pos htaken]
  · split
    · next cue k ha =>
      intro hk
      rw [hlowered p htaken (by simp [Context.lastTick, ha]; omega), countDown_of_fade ha]
    · next cue k ha =>
      intro hk
      rw [hlowered p htaken (by simp [Context.lastTick, ha]; omega), countDown_of_hold ha]
    · next cue e k f ha =>
      intro hk
      rw [hlowered p htaken (by simp [Context.lastTick, ha]; omega), countDown_of_event ha]
    · next hfade hhold hevent =>
      have hlast : (s.ctx p).lastTick = false := by
        unfold Context.lastTick
        split
        · next ha => exact absurd ha (hfade _ _)
        · next ha => exact absurd ha (hhold _ _)
        · next ha => exact absurd ha (hevent _ _ _ _)
        · rfl
      rw [hlowered p htaken hlast]
      unfold Context.countDown
      split
      · next ha => exact absurd ha (hfade _ _)
      · next ha => exact absurd ha (hhold _ _)
      · next ha => exact absurd ha (hevent _ _ _ _)
      · rfl
  · have hnone : s.endingContexts = [] := List.eq_nil_iff_forall_not_mem.2 fun p hp =>
      absurd ((mem_endingContexts.1 hp).2.symm.trans (hl p)) (by decide)
    rw [hnone, List.perm_nil] at ho
    rw [ht, ho]
    exact ⟨rfl, rfl, rfl, rfl, rfl, rfl, rfl⟩
  · refine ho.trans (.of_eq ?_)
    rw [State.endingContexts, State.dueContexts, List.filter_filter]
    exact List.filter_congr fun p _ => Bool.and_comm _ _
  · rw [ht, foldl_endCount (s := s) (u := s.counted n) (ho.nodup_iff.2 (endingContexts_nodup s))
      fun p hp => countContexts_ctx_of_ending (ho.mem_iff.1 hp)]
    rw [counted_eq]
    rfl

end Sys2Proof.Machine
end

section
/-! Contexts that leave their last claim behind: they enter IDLE, each with its report and its notice (R62,
R63, R95). -/

namespace Sys2Proof.Machine

/-- The notice of a context that has left, where its report flag is on (R63). -/
def State.tellGone (s u : State) (p : Ctx) : State :=
  if (s.ctx p).report then u.notify (.contextIdle p .released (s.ctx p).current) else u

/-- The contexts of an order have entered IDLE, each with its report and its notice; but for them, the link
and the count of free values taken, all stays. -/
structure LeftInOrder (s t : State) (order : List Ctx) : Prop where
  eq : t = { s with contexts := t.contexts, reports := t.reports, link := t.link, free := t.free }
  ctx : ∀ p, t.ctx p = if p ∈ order then { s.ctx p with activity := .idle, current := none } else s.ctx p
  reports : t.reports = s.reports ++ order.map fun p => ⟨p, .idle⟩
  link : t.link = (order.foldl s.tellGone s).link

section
variable {s t u v : State}

theorem LeftInOrder.mix {order : List Ctx} (h : LeftInOrder s t order) : t.mix = s.mix := by rw [h.eq]
theorem LeftInOrder.out {order : List Ctx} (h : LeftInOrder s t order) : t.out = s.out := by rw [h.eq]
theorem LeftInOrder.store {order : List Ctx} (h : LeftInOrder s t order) : t.store = s.store := by
  rw [h.eq]
theorem LeftInOrder.cells {order : List Ctx} (h : LeftInOrder s t order) : t.cells = s.cells := by
  rw [h.eq]
theorem LeftInOrder.trig {order : List Ctx} (h : LeftInOrder s t order) : t.trig = s.trig := by
  rw [h.eq]
theorem LeftInOrder.clk {order : List Ctx} (h : LeftInOrder s t order) : t.clk = s.clk := by
  rw [h.eq]
theorem LeftInOrder.posts {order : List Ctx} (h : LeftInOrder s t order) : t.posts = s.posts := by
  rw [h.eq]

/-- A notice is told alike at two parts with the same link and tick stamp, and by the same records. -/
theorem tellGone_congr {p : Ctx} (hc : t.ctx p = s.ctx p) (hl : v.link = u.link) (hk : v.clk = u.clk) :
    (t.tellGone v p).link = (s.tellGone u p).link ∧ (t.tellGone v p).clk = (s.tellGone u p).clk := by
  unfold State.tellGone
  rw [hc]
  split
  · exact ⟨notify_link_congr hl hk _, (keeps_notify v _).clk.trans (hk.trans (keeps_notify u _).clk.symm)⟩
  · exact ⟨hl, hk⟩

theorem foldl_tellGone_congr {order : List Ctx} (hc : ∀ p ∈ order, t.ctx p = s.ctx p)
    (hl : v.link = u.link) (hk : v.clk = u.clk) :
    (order.foldl t.tellGone v).link = (order.foldl s.tellGone u).link := by
  induction order generalizing u v with
  | nil => exact hl
  | cons p ps ih =>
    obtain ⟨hl', hk'⟩ := tellGone_congr (hc p List.mem_cons_self) hl hk
    exact ih (fun q hq => hc q (List.mem_cons_of_mem _ hq)) hl' hk'

theorem foldl_tellGone_clk (s u : State) (order : List Ctx) : (order.foldl s.tellGone u).clk = u.clk :=
  foldl_keeps (P := fun w => w.clk = u.clk) (fun w p hw => by
    unfold State.tellGone
    split
    · rw [notify_eq_link]
      exact hw
    · exact hw) order rfl

/-- Nothing but the count of free values taken. -/
theorem leftInOrder_free (s : State) (n : Nat) : LeftInOrder s { s with free := n } [] :=
  ⟨rfl, fun _ => rfl, (List.append_nil _).symm, rfl⟩

theorem LeftInOrder.refl (s : State) : LeftInOrder s s [] := leftInOrder_free s s.free

theorem LeftInOrder.trans {a b : List Ctx} (h : LeftInOrder s t a) (k : LeftInOrder t u b)
    (hd : a.Disjoint b) : LeftInOrder s u (a ++ b) where
  eq := by rw [k.eq, h.eq]
  ctx p := by
    rw [k.ctx, h.ctx]
    by_cases hb : p ∈ b
    · have ha : p ∉ a := fun ha => hd ha hb
      simp [ha, hb]
    · simp [hb]
  reports := by rw [k.reports, h.reports, List.map_append, List.append_assoc]
  link := by
    rw [k.link, List.foldl_append]
    refine foldl_tellGone_congr (fun p hp => ?_) h.link ?_
    · rw [h.ctx, if_neg fun ha => hd ha hp]
    · rw [h.clk, foldl_tellGone_clk]

theorem leftInOrder_enterIdle (s : State) (p : Ctx) : LeftInOrder s (s.enterIdle p .released) [p] where
  eq := by rw [enterIdle_eq]
  ctx q := by
    rw [enterIdle_ctx]
    by_cases hq : q = p
    · subst hq
      simp
    · simp [hq]
  reports := enterIdle_reports s p _
  link := enterIdle_link s p _

/-- The contexts that a claims-gone report makes leave: those in RELEASING (R62). -/
def State.inRelease (s : State) (p : Ctx) : Bool := (s.ctx p).activity == .releasing

theorem leftInOrder_takeClaimsGone (s : State) (p : Ctx) :
    LeftInOrder s (s.takeClaimsGone p) ([p].filter s.inRelease) := by
  unfold State.takeClaimsGone
  split
  · next ha =>
    have hr : s.inRelease p = true := by rw [State.inRelease, ha]; rfl
    rw [List.filter_cons_of_pos hr]
    exact leftInOrder_enterIdle s p
  · next ha =>
    have hr : ¬ s.inRelease p = true := fun h => ha (beq_iff_eq.1 h)
    rw [List.filter_cons_of_neg hr]
    exact .refl s

/-- Claims-gone reports to the contexts of a list, told in its order (R95). -/
theorem leftInOrder_foldl {l : List Ctx} (hn : l.Nodup) (s : State) :
    LeftInOrder s (l.foldl State.takeClaimsGone s) (l.filter s.inRelease) := by
  induction l generalizing s with
  | nil => exact .refl s
  | cons p ps ih =>
    obtain ⟨hp, hn⟩ := List.nodup_cons.1 hn
    have hrest : ps.filter (s.takeClaimsGone p).inRelease = ps.filter s.inRelease :=
      List.filter_congr fun q hq => by
        rw [State.inRelease, (ctxStep_takeClaimsGone p s).ctx q fun hqp => hp (hqp ▸ hq)]
        rfl
    have h := (leftInOrder_takeClaimsGone s p).trans (ih hn (s.takeClaimsGone p)) fun q hq hq' => by
      rw [List.eq_of_mem_singleton (List.mem_of_mem_filter hq)] at hq'
      exact hp (List.mem_of_mem_filter hq')
    rw [hrest, ← List.filter_append] at h
    exact h

/-- Claims-gone reports in any order (log 9). -/
theorem leftInOrder_takeAllGone {l : List Ctx} (hn : l.Nodup) (s : State) :
    ∃ order, order.Perm (l.filter s.inRelease) ∧ LeftInOrder s (s.takeAllGone l) order := by
  have hp := anyOrder_perm s l
  have h := leftInOrder_foldl (hp.nodup_iff.2 hn) (s.anyOrder l).2
  have hfree : LeftInOrder s (s.anyOrder l).2 [] := by
    rw [anyOrder_state]
    exact leftInOrder_free s _
  have hrel : (s.anyOrder l).2.inRelease = s.inRelease := by
    funext p
    rw [anyOrder_state]
    rfl
  rw [hrel] at h
  exact ⟨_, hp.filter _, hfree.trans h (List.disjoint_nil_left _)⟩

/-! ### The contexts whose last claim goes -/

theorem claimsGone_nodup (a b : Mixer) : (claimsGone a b).Nodup := allCtx_nodup.filter _

/-- Those of them that are in RELEASING are the ones that leave. -/
theorem claimsGone_filter {u : State} (hc : ∀ p, u.ctx p = s.ctx p) (hm : t.mix = u.mix) :
    (claimsGone s.mix u.mix).filter u.inRelease = s.leaving t := by
  rw [claimsGone, List.filter_filter, State.leaving, hm]
  refine List.filter_congr fun p _ => ?_
  rw [State.inRelease, hc, Bool.and_assoc]

theorem mem_leaving {p : Ctx} : p ∈ s.leaving t ↔ (s.ctx p).activity = .releasing
    ∧ s.mix.holdsClaim p = true ∧ t.mix.holdsClaim p = false := by
  have hp : p ∈ allCtx := by revert p; decide
  simp [State.leaving, hp, and_assoc]

/-- What a step shows that changes the mixer and the output stage, and then tells the contexts that leave. -/
theorem LeftInOrder.showsGone {base : State} {order : List Ctx} (h : LeftInOrder u v order)
    (hm : MixOnly base u) (hs : ∀ p, base.ctx p = s.ctx p) (hr : base.reports = s.reports)
    (ho : order.Perm (s.leaving t)) (hctx : t.contexts = v.contexts) (hrep : t.reports = v.reports)
    (hlink : t.link = v.link) : s.showsGone t base order := by
  have hc : ∀ p, u.ctx p = s.ctx p := fun p => (hm.ctx p).trans (hs p)
  refine ⟨ho, fun p => ?_, ?_, ?_⟩
  · rw [State.ctx, hctx, ← hc p]
    exact h.ctx p
  · rw [hrep, h.reports, hm.reports, hr]
  · rw [hlink, h.link]
    exact foldl_tellGone_congr (fun p _ => hc p) hm.link hm.clk

/-- Steps that tell the same contexts leave the same records, whatever the order. -/
theorem contexts_of_showsGone {base base' t' : State} {a b : List Ctx} (h : s.showsGone t base a)
    (k : s.showsGone t' base' b) (hab : ∀ p, p ∈ a ↔ p ∈ b) : t.contexts = t'.contexts := by
  obtain ⟨-, ht, -, -⟩ := h
  obtain ⟨-, ht', -, -⟩ := k
  refine Vector.ext fun i hi => ?_
  have hp : t.ctx ⟨i, hi⟩ = t'.ctx ⟨i, hi⟩ := by
    rw [ht, ht']
    exact if_congr (hab _) rfl rfl
  exact hp

end

/-- What the shared operations leave of the configuration. -/
theorem Keeps.sameButDuty {s t : State} (h : Keeps s t) (ch : Chan) :
    (s.outCh ch).sameButDuty (t.outCh ch) := by
  obtain ⟨d, hd⟩ := h.outCh ch
  unfold OutChannel.sameButDuty
  rw [hd]

theorem Keeps.sameConfig {s t : State} (h : Keeps s t) : s.sameConfig t := by
  refine ⟨h.mask, by rw [h.clk], h.groups, fun p => ⟨h.home p, h.report p⟩,
    fun ch => ⟨h.arbitration ch, h.curve ch, h.secondary ch⟩, fun ch => ?_, fun k => by rw [h.sources],
    h.triggers, fun k => (h.matchers k).1⟩
  rw [h.sameButDuty ch]
  exact ⟨rfl, rfl, rfl, rfl, rfl⟩

end Sys2Proof.Machine
end

section
/-! A tick at the mixer (R96, O32). -/

namespace Sys2Proof.Machine

/-! ### The claims (R94, R96) -/

/-- A claim at a tick of the mixer (R94, R96). -/
theorem advanceClaims_get (s : State) (ch : Chan) (who : Claimant) :
    (s.advanceClaims.mixCh ch).claims.get who
      = ((s.mixCh ch).claims.get who).bind fun c => if s.mix.isHeld who then some c else c.tick := by
  rw [State.advanceClaims, (updateClaims_mixCh s _ ch).1, ClaimSet.get_update]

/-- A claim that ticks: it stands where it is settled, ends or is removed with the last tick of its fade, and
moves on otherwise (R96). -/
theorem tick_eq (c : Claim) : c.tick =
    if c.elapsed = c.total then some c
    else if c.elapsed + 1 = c.total then
      (if c.releasing then none else some { c with elapsed := c.total, present := c.target })
    else some { c with elapsed := c.elapsed + 1,
                       present := fadeLevel c.start c.target (c.elapsed + 1) c.total } := by
  unfold Claim.tick Claim.settled
  simp only [beq_iff_eq]
  split
  · rfl
  · split
    · next he => rw [he]
    · rfl

/-! ### The tick -/

/-- The part after a tick at the mixer, the tick still owed. -/
def State.mixTicked (s : State) (first : List Ctx) : State :=
  (((claimsGone s.mix s.advanceClaims.mix).filter fun p => p ∈ first).foldl State.takeClaimsGone
    s.advanceClaims).takeAllGone ((claimsGone s.mix s.advanceClaims.mix).filter fun p => p ∉ first)

theorem keeps_mixTicked (s : State) (first : List Ctx) : PlayKeeps s (s.mixTicked first) :=
  ((keeps_advanceClaims s).trans (PlayKeeps.foldl keeps_takeClaimsGone _ _)).trans
    (keeps_takeAllGone _ _)

theorem tickMix_eq (s : State) (first : List Ctx) : s.tickMix first
    = { s.mixTicked first with owed := { s.owed with mix := s.owed.mix - 1 } } := by
  have howed := (keeps_mixTicked s first).owed
  unfold State.tickMix State.modOwed
  dsimp only
  rw [← State.mixTicked, howed]

/-- Of the contexts that leave, those named first are told first (R95; log 8). -/
theorem mixTicked_left (s : State) (first : List Ctx) : ∃ order,
    order.Perm ((claimsGone s.mix s.advanceClaims.mix).filter s.advanceClaims.inRelease)
    ∧ ((claimsGone s.mix s.advanceClaims.mix).filter s.advanceClaims.inRelease).filter
        (fun p => p ∈ first) <+: order
    ∧ LeftInOrder s.advanceClaims (s.mixTicked first) order := by
  unfold State.mixTicked
  generalize s.advanceClaims = u
  have hn := claimsGone_nodup s.mix u.mix
  generalize claimsGone s.mix u.mix = gone at hn ⊢
  have hfirst := leftInOrder_foldl (hn.filter fun p => decide (p ∈ first)) u
  obtain ⟨order, ho, hrest⟩ := leftInOrder_takeAllGone (hn.filter fun p => decide (p ∉ first))
    ((gone.filter fun p => p ∈ first).foldl State.takeClaimsGone u)
  have hsame : (gone.filter fun p => p ∉ first).filter
      ((gone.filter fun p => p ∈ first).foldl State.takeClaimsGone u).inRelease
        = (gone.filter fun p => p ∉ first).filter u.inRelease :=
    List.filter_congr fun p hp => by
      rw [State.inRelease, foldl_ctx_of_not_mem (fun q w => ctxStep_takeClaimsGone q w) fun hq => ?_]
      · rfl
      · exact absurd (List.mem_filter.1 hq).2 (by simpa using (List.mem_filter.1 hp).2)
  rw [hsame] at ho
  have hleft := hfirst.trans hrest fun p hp hp' => by
    have h1 := (List.mem_filter.1 (List.mem_of_mem_filter hp)).2
    have h2 := (List.mem_filter.1 (List.mem_of_mem_filter (ho.mem_iff.1 hp'))).2
    exact absurd h1 (by simpa using h2)
  rw [List.filter_comm] at hleft
  rw [List.filter_comm] at ho
  have hsplit := List.filter_append_perm (fun p => decide (p ∈ first)) (gone.filter u.inRelease)
  simp only [decide_not] at ho
  exact ⟨_, (List.Perm.append_left _ ho).trans hsplit, List.prefix_append _ _, hleft⟩

/-- What a tick at the mixer shows of the contexts that leave (R95; log 8, log 9). -/
theorem tickMix_showsGone (s : State) (first : List Ctx) : ∃ order, s.showsGone (s.tickMix first) s order
    ∧ (s.leaving (s.tickMix first)).filter (fun p => p ∈ first) <+: order := by
  obtain ⟨order, ho, hpre, hleft⟩ := mixTicked_left s first
  have hm := mixOnly_advanceClaims s
  have ht := tickMix_eq s first
  have hmix : (s.tickMix first).mix = s.advanceClaims.mix := by rw [ht]; exact hleft.mix
  rw [claimsGone_filter (t := s.tickMix first) (fun p => hm.ctx p) hmix] at ho hpre
  exact ⟨order, hleft.showsGone hm (fun _ => rfl) rfl ho (by rw [ht]) (by rw [ht]) (by rw [ht]), hpre⟩

/-- A list that begins with a list of one thing begins with that thing. -/
theorem head?_of_prefix {α : Type} {l order : List α} {a : α} (h : l <+: order) (ha : a ∈ l)
    (hall : ∀ x ∈ l, x = a) : order.head? = some a := by
  obtain ⟨r, rfl⟩ := h
  cases l with
  | nil => exact absurd ha List.not_mem_nil
  | cons x xs => rw [hall x List.mem_cons_self]; rfl

/-- What a tick at the mixer leaves, whoever is told first. -/
theorem tickMix_rest (s : State) (first : List Ctx) :
    (s.tickMix first).mix = s.advanceClaims.mix ∧ (s.tickMix first).out = s.advanceClaims.out
      ∧ (s.tickMix first).owed = { s.owed with mix := s.owed.mix - 1 }
      ∧ (s.tickMix first).store = s.store ∧ (s.tickMix first).cells = s.cells
      ∧ (s.tickMix first).trig = s.trig ∧ (s.tickMix first).clk = s.clk
      ∧ (s.tickMix first).posts = s.posts := by
  obtain ⟨order, -, -, hleft⟩ := mixTicked_left s first
  have hm := mixOnly_advanceClaims s
  rw [tickMix_eq]
  exact ⟨hleft.mix, hleft.out, rfl, hleft.store.trans hm.store, hleft.cells.trans hm.cells,
    hleft.trig.trans hm.trig, hleft.clk.trans hm.clk, hleft.posts.trans hm.posts⟩

theorem tickMix_get (s : State) (first : List Ctx) (ch : Chan) (who : Claimant) :
    ((s.tickMix first).mixCh ch).claims.get who
      = ((s.mixCh ch).claims.get who).bind fun c => if s.mix.isHeld who then some c else c.tick := by
  rw [State.mixCh, (tickMix_rest s first).1]
  exact advanceClaims_get s ch who

/-- What an arriving tick makes of the claims, the contexts and the rest (R94 to R96). -/
theorem tickArrivalMix_shows (s : State) :
    let t := s.tickMix []
    (∀ ch who, (t.mixCh ch).claims.get who =
        match (s.mixCh ch).claims.get who with
        | none => none
        | some c =>
          if c.elapsed = c.total then some c
          else if (match who with | .ctx p => ctxIn p s.mix.held | .link => false) then some c
          else if c.elapsed + 1 = c.total then
            (if c.releasing then none else some { c with elapsed := c.total, present := c.target })
          else some { c with elapsed := c.elapsed + 1,
                             present := fadeLevel c.start c.target (c.elapsed + 1) c.total })
      ∧ (∀ p, t.ctx p = if (s.ctx p).activity = .releasing ∧ s.mix.holdsClaim p = true
            ∧ t.mix.holdsClaim p = false then
          { s.ctx p with activity := .idle, current := none } else s.ctx p) := by
  intro t
  refine ⟨fun ch who => ?_, fun p => ?_⟩
  · rw [tickMix_get]
    cases (s.mixCh ch).claims.get who with
    | none => rfl
    | some c =>
      rw [Option.bind_some, tick_eq]
      dsimp only
      by_cases hs : c.elapsed = c.total
      · rw [if_pos hs, ite_self, if_pos hs]
      · rw [if_neg hs, if_neg hs]
        cases who <;> rfl
  · obtain ⟨order, ⟨hperm, hctx, -, -⟩, -⟩ := tickMix_showsGone s []
    rw [hctx]
    exact if_congr (hperm.mem_iff.trans mem_leaving) rfl rfl

/-- Settles O32. -/
theorem tickAdvancesTheClaims : Obligations.TickAdvancesTheClaims := by
  refine ⟨fun s hmix => ?_, fun s ch who c hmix hc hrel hlast hheld => ?_⟩
  · obtain ⟨hm, ho, howed, hstore, hcells, htrig, hclk, hposts⟩ := tickMix_rest s []
    obtain ⟨hclaims, hctx⟩ := tickArrivalMix_shows s
    obtain ⟨order, hshows, -⟩ := tickMix_showsGone s []
    have hk : Keeps s (s.mixTicked []) := (keeps_mixTicked s []).toKeeps
    have ht := tickMix_eq s []
    refine ⟨s.tickMix [], if_pos hmix, howed, hclaims, hctx, ⟨order, hshows⟩, hstore, hcells, htrig,
      hclk, hposts, ?_, ?_, ?_, ?_, fun ch => ⟨?_, ?_⟩⟩
    · rw [hm, held_advanceClaims]
    · rw [ht]
      exact hk.curves
    · rw [ht]
      exact hk.sources
    · rw [ht]
      exact hk.sameConfig
    · rw [ht]
      exact hk.sameButDuty ch
    · rw [State.mixCh, hm, State.advanceClaims]
      exact (updateClaims_mixCh s _ ch).2
  · obtain ⟨hm, ho, howed, hstore, hcells, htrig, hclk, hposts⟩ := tickMix_rest s (claimantContexts who)
    obtain ⟨hm', ho', howed', hstore', hcells', htrig', hclk', hposts'⟩ := tickMix_rest s []
    obtain ⟨order, hshows, hpre⟩ := tickMix_showsGone s (claimantContexts who)
    obtain ⟨order', hshows', -⟩ := tickMix_showsGone s []
    have hends : s.releaseEnds ch who = true := by
      simp [State.releaseEnds, hc, hrel, hlast, hheld]
    have hsame : s.leaving (s.tickMix (claimantContexts who)) = s.leaving (s.tickMix []) := by
      rw [State.leaving, State.leaving, hm, hm']
    refine ⟨s.tickMix (claimantContexts who), s.tickMix [], if_pos ⟨hmix, hends⟩, if_pos hmix, ?_,
      ⟨order, hshows, fun p hp hwho => ?_⟩, hm.trans hm'.symm, ho.trans ho'.symm, howed.trans howed'.symm,
      contexts_of_showsGone hshows hshows' fun p => ?_, hstore.trans hstore'.symm,
      hcells.trans hcells'.symm, htrig.trans htrig'.symm, hclk.trans hclk'.symm, hposts.trans hposts'.symm⟩
    · rw [tickMix_get, hc, Option.bind_some, hheld, if_neg Bool.false_ne_true, tick_eq, if_neg (by omega),
        if_pos hlast, if_pos hrel]
    · subst hwho
      refine head?_of_prefix hpre (List.mem_filter.2 ⟨hp, decide_eq_true (List.mem_singleton.2 rfl)⟩)
        fun q hq => ?_
      exact List.mem_singleton.1 (of_decide_eq_true (List.mem_filter.1 hq).2)
    · rw [hshows.1.mem_iff, hshows'.1.mem_iff, hsame]

end Sys2Proof.Machine
end

section
/-! CONFIG_CHANNEL (R106, R107, R114, R123, O35). -/

namespace Sys2Proof.Machine

/-! ### A level settled (R97, R100) -/

section
variable (s : State) (ch : Chan)

theorem settle_level (h : (s.mixCh ch).secondary = false) :
    ((s.settle ch).mixCh ch).level = (s.mixCh ch).claims.level (s.mixCh ch).arbitration := by
  have hl : ∀ u : State, ((u.translate ch).mixCh ch).level = (u.mixCh ch).level := fun u => by
    have hv := congrArg (fun v : ChannelView => v.1.level) (viewOf_translate u ch ch)
    rw [if_pos rfl, (ChannelView.translated_same _ _).2.1] at hv
    exact hv
  rw [State.settle, if_neg (by rw [h]; exact Bool.false_ne_true), hl, State.modMix_mixCh, if_pos rfl]

theorem settle_outCh_of_ne {c : Chan} (h : c ≠ ch) : (s.settle ch).outCh c = s.outCh c := by
  unfold State.settle
  split
  · rfl
  · exact congrArg Prod.snd ((viewOf_translate _ ch c).trans (if_neg h))

end

/-! ### Partners -/

theorem oddPartner_ne {ch : Chan} (h : isOdd ch = false) : oddPartner ch ≠ ch := by
  revert ch
  decide

/-! ### The mixer's part (R106, R107) -/

/-- The channel with its new arbitration and curve, its level settled (R106). -/
def State.rearbitrated (s : State) (ch : Chan) (cfg : ChannelConfig) : State :=
  (s.modMix ch fun c => { c with arbitration := cfg.arbitration, curve := cfg.curve }).settle ch

section
variable (s : State) (ch : Chan) (cfg : ChannelConfig)

theorem mixConfig_of_odd (h : isOdd ch = true) : s.mixConfig ch cfg = s.rearbitrated ch cfg := if_pos h

theorem mixConfig_of_pair (h : isOdd ch = false) (hm : cfg.mode = .pair) : s.mixConfig ch cfg
    = (s.rearbitrated ch cfg).modMix (oddPartner ch) MixChannel.becomeSecondary :=
  (if_neg (by rw [h]; exact Bool.false_ne_true)).trans (if_pos hm)

theorem mixConfig_of_single (h : isOdd ch = false) (hm : cfg.mode ≠ .pair) : s.mixConfig ch cfg
    = (s.rearbitrated ch cfg).ceaseSecondary (oddPartner ch) :=
  (if_neg (by rw [h]; exact Bool.false_ne_true)).trans (if_neg hm)

theorem rearbitrated_mixCh : ((s.rearbitrated ch cfg).mixCh ch).arbitration = cfg.arbitration
    ∧ ((s.rearbitrated ch cfg).mixCh ch).curve = cfg.curve
    ∧ ((s.rearbitrated ch cfg).mixCh ch).claims = (s.mixCh ch).claims
    ∧ ((s.rearbitrated ch cfg).mixCh ch).secondary = (s.mixCh ch).secondary
    ∧ ((s.mixCh ch).secondary = false →
      ((s.rearbitrated ch cfg).mixCh ch).level = (s.mixCh ch).claims.level cfg.arbitration) := by
  obtain ⟨u, hu⟩ : ∃ u, u = s.modMix ch fun c =>
    { c with arbitration := cfg.arbitration, curve := cfg.curve } := ⟨_, rfl⟩
  have hch : u.mixCh ch = { s.mixCh ch with arbitration := cfg.arbitration, curve := cfg.curve } := by
    rw [hu, State.modMix_mixCh, if_pos rfl]
  have hk := keeps_settle u ch
  rw [State.rearbitrated, ← hu]
  refine ⟨?_, ?_, ?_, ?_, fun hs => ?_⟩
  · rw [hk.arbitration, hch]
  · rw [hk.curve, hch]
  · rw [(sameClaims_settle u ch ch).1, hch]
  · rw [hk.secondary, hch]
  · rw [settle_level u ch (by rw [hch]; exact hs), hch]

theorem rearbitrated_mixCh_of_ne {c : Chan} (h : c ≠ ch) :
    (s.rearbitrated ch cfg).mixCh c = s.mixCh c := by
  rw [State.rearbitrated, settle_mixCh_of_ne _ h, State.modMix_mixCh, if_neg h]

theorem rearbitrated_outCh_of_ne {c : Chan} (h : c ≠ ch) :
    (s.rearbitrated ch cfg).outCh c = s.outCh c := by
  rw [State.rearbitrated, settle_outCh_of_ne _ _ h]
  rfl

theorem rearbitrated_curves : (s.rearbitrated ch cfg).mix.curves = s.mix.curves :=
  (keeps_settle _ ch).curves

theorem rearbitrated_sources : (s.rearbitrated ch cfg).out.sources = s.out.sources :=
  (keeps_settle _ ch).sources

theorem rearbitrated_sameButDuty (c : Chan) :
    (s.outCh c).sameButDuty ((s.rearbitrated ch cfg).outCh c) :=
  Keeps.sameButDuty (s := s.modMix ch _) (keeps_settle _ ch).toKeeps c

end

/-- A channel that ceases to be a secondary hands the duty of level 0 (R107). -/
theorem ceaseSecondary_of_secondary {s : State} {ch : Chan} (h : (s.mixCh ch).secondary = true) :
    s.ceaseSecondary ch = (s.modMix ch fun c => { c with secondary := false, level := 0 }).handDuty ch
      (s.mix.duty (s.mixCh ch).curve 0) := if_pos h

theorem ceaseSecondary_of_not {s : State} {ch : Chan} (h : (s.mixCh ch).secondary = false) :
    s.ceaseSecondary ch = s := if_neg (by rw [h]; exact Bool.false_ne_true)

/-- The records of a channel whose neighbour ceases to be a secondary. -/
theorem viewOf_ceaseSecondary_of_ne (s : State) {ch c : Chan} (h : c ≠ ch) :
    (s.ceaseSecondary ch).viewOf c = s.viewOf c := by
  cases hs : (s.mixCh ch).secondary with
  | false => rw [ceaseSecondary_of_not hs]
  | true =>
    rw [ceaseSecondary_of_secondary hs, viewOf_handDuty, if_neg h, State.viewOf, State.modMix_mixCh,
      if_neg h]
    rfl

/-- The records of a channel that ceases to be a secondary (R107). -/
theorem viewOf_ceaseSecondary {s : State} {ch : Chan} (h : (s.mixCh ch).secondary = true) :
    (s.ceaseSecondary ch).viewOf ch
      = ({ s.mixCh ch with
            secondary := false, level := 0, dutyLast := s.mix.duty (s.mixCh ch).curve 0 },
         { s.outCh ch with buffered :=
            { (s.outCh ch).buffered with duty := s.mix.duty (s.mixCh ch).curve 0 } }) := by
  rw [ceaseSecondary_of_secondary h, viewOf_handDuty, if_pos rfl, State.modMix_mixCh, if_pos rfl]
  rfl

theorem ceaseSecondary_curves (s : State) (ch : Chan) :
    (s.ceaseSecondary ch).mix.curves = s.mix.curves := by
  unfold State.ceaseSecondary
  dsimp only
  split <;> rfl

theorem ceaseSecondary_sources (s : State) (ch : Chan) :
    (s.ceaseSecondary ch).out.sources = s.out.sources := by
  unfold State.ceaseSecondary
  dsimp only
  split <;> rfl

section
variable (s : State) (ch : Chan) (cfg : ChannelConfig)

/-- All that the mixer's part does: the channel is settled, and its partner becomes or ceases to be a
secondary. -/
theorem mixConfig_cases : s.mixConfig ch cfg = s.rearbitrated ch cfg
    ∨ isOdd ch = false ∧ (s.mixConfig ch cfg
          = (s.rearbitrated ch cfg).modMix (oddPartner ch) MixChannel.becomeSecondary
        ∨ s.mixConfig ch cfg = (s.rearbitrated ch cfg).ceaseSecondary (oddPartner ch)) := by
  cases h : isOdd ch with
  | true => exact .inl (mixConfig_of_odd s ch cfg h)
  | false =>
    by_cases hm : cfg.mode = .pair
    · exact .inr ⟨rfl, .inl (mixConfig_of_pair s ch cfg h hm)⟩
    · exact .inr ⟨rfl, .inr (mixConfig_of_single s ch cfg h hm)⟩

/-- The partner's part does not reach the channel. -/
theorem viewOf_mixConfig : (s.mixConfig ch cfg).viewOf ch = (s.rearbitrated ch cfg).viewOf ch := by
  rcases mixConfig_cases s ch cfg with h | ⟨ho, h | h⟩
  · rw [h]
  · rw [h, State.viewOf, State.modMix_mixCh, if_neg (oddPartner_ne ho).symm]
    rfl
  · rw [h, viewOf_ceaseSecondary_of_ne _ (oddPartner_ne ho).symm]

theorem mixConfig_curves : (s.mixConfig ch cfg).mix.curves = s.mix.curves := by
  rcases mixConfig_cases s ch cfg with h | ⟨-, h | h⟩
  · rw [h, rearbitrated_curves]
  · rw [h]
    exact rearbitrated_curves s ch cfg
  · rw [h, ceaseSecondary_curves, rearbitrated_curves]

theorem mixConfig_sources : (s.mixConfig ch cfg).out.sources = s.out.sources := by
  rcases mixConfig_cases s ch cfg with h | ⟨-, h | h⟩
  · rw [h, rearbitrated_sources]
  · rw [h]
    exact rearbitrated_sources s ch cfg
  · rw [h, ceaseSecondary_sources, rearbitrated_sources]

theorem ceaseSecondary_sameButDuty (c : Chan) : (s.outCh c).sameButDuty ((s.ceaseSecondary ch).outCh c) := by
  by_cases hc : c = ch
  · subst hc
    cases hs : (s.mixCh c).secondary with
    | false => rw [ceaseSecondary_of_not hs]
    | true =>
      have h : (s.ceaseSecondary c).outCh c = _ := congrArg Prod.snd (viewOf_ceaseSecondary hs)
      rw [h]
  · have h : (s.ceaseSecondary ch).outCh c = s.outCh c :=
      congrArg Prod.snd (viewOf_ceaseSecondary_of_ne s hc)
    rw [h]

theorem mixConfig_sameButDuty (c : Chan) : (s.outCh c).sameButDuty ((s.mixConfig ch cfg).outCh c) := by
  have hr := rearbitrated_sameButDuty s ch cfg c
  rcases mixConfig_cases s ch cfg with h | ⟨-, h | h⟩
  · rw [h]
    exact hr
  · rw [h]
    exact hr
  · rw [h, OutChannel.sameButDuty, ceaseSecondary_sameButDuty (s.rearbitrated ch cfg) (oddPartner ch) c, hr]

/-- The partner of a channel configured PAIR is a secondary, without claims where it was none (R107). -/
theorem mixConfig_partner_of_pair (h : isOdd ch = false) (hm : cfg.mode = .pair) :
    (s.mixConfig ch cfg).mixCh (oddPartner ch) = (s.mixCh (oddPartner ch)).becomeSecondary
      ∧ (s.mixConfig ch cfg).outCh (oddPartner ch) = s.outCh (oddPartner ch) := by
  rw [mixConfig_of_pair s ch cfg h hm, State.modMix_mixCh, if_pos rfl,
    rearbitrated_mixCh_of_ne _ _ _ (oddPartner_ne h)]
  exact ⟨rfl, rearbitrated_outCh_of_ne s ch cfg (oddPartner_ne h)⟩

/-- The partner of a channel configured otherwise is none, and hands the duty of level 0 where it ceases to
be one (R107). -/
theorem mixConfig_partner_of_single (h : isOdd ch = false) (hm : cfg.mode ≠ .pair) :
    ((s.mixConfig ch cfg).mixCh (oddPartner ch)).secondary = false
      ∧ ((s.mixCh (oddPartner ch)).secondary = true →
        ((s.mixConfig ch cfg).mixCh (oddPartner ch)).level = 0
        ∧ ((s.mixConfig ch cfg).outCh (oddPartner ch)).buffered.duty
            = s.mix.duty (s.mixCh (oddPartner ch)).curve 0) := by
  have hsame := rearbitrated_mixCh_of_ne s ch cfg (oddPartner_ne h)
  rw [mixConfig_of_single s ch cfg h hm, ← hsame, ← duty_congr (rearbitrated_curves s ch cfg)]
  generalize s.rearbitrated ch cfg = w
  generalize oddPartner ch = c
  cases hs : (w.mixCh c).secondary with
  | false =>
    rw [ceaseSecondary_of_not hs]
    exact ⟨hs, fun h => absurd h Bool.false_ne_true⟩
  | true =>
    have hm := congrArg Prod.fst (viewOf_ceaseSecondary hs)
    have ho := congrArg Prod.snd (viewOf_ceaseSecondary hs)
    exact ⟨congrArg MixChannel.secondary hm, fun _ => ⟨congrArg MixChannel.level hm,
      congrArg (fun o : OutChannel => o.buffered.duty) ho⟩⟩

end

/-! ### The Output Stage's part (R114, R121, R123) -/

theorem namesAsserted_eq (o : Output) (mask : BitVec 2) : o.namesAsserted mask
    = (List.finRange 2).any fun k => mask.getLsbD k.val && (o.sources[k]).asserted := by
  have h : ∀ (m : BitVec 2) (a b : Bool),
      (m &&& (((if a then 1 else 0 : Nat) : BitVec 2) ||| (if b then 2 else 0)) != 0)
        = (m.getLsbD 0 && a || (m.getLsbD 1 && b || false)) := by decide
  have hr : List.finRange 2 = [0, 1] := by decide
  rw [hr, Output.namesAsserted, Output.assertedSet, h]
  rfl

theorem outConfig_outCh (s : State) (ch : Chan) (cfg : ChannelConfig) :
    (s.outConfig ch cfg).outCh ch = { s.outCh ch with
      buffered := { (s.outCh ch).buffered with
        mode := cfg.mode, period := cfg.period, deadTime := cfg.deadTime }
      safe := cfg.safe
      mask := cfg.mask
      shutdown := (s.outCh ch).shutdown || s.out.namesAsserted cfg.mask } := by
  rw [State.outConfig, State.modOut_outCh, if_pos rfl, OutChannel.enterShutdown]
  split
  · next h => rw [show s.out.namesAsserted cfg.mask = true from h, Bool.or_true]
  · next h =>
    rw [show s.out.namesAsserted cfg.mask = false from Bool.not_eq_true _ ▸ h, Bool.or_false]

theorem outConfig_outCh_of_ne (s : State) {ch c : Chan} (cfg : ChannelConfig) (h : c ≠ ch) :
    (s.outConfig ch cfg).outCh c = s.outCh c := by
  rw [State.outConfig, State.modOut_outCh, if_neg h]

/-! ### The request -/

/-- The mixer and the output stage configured, the contexts not yet told. -/
def State.configured (s : State) (ch : Chan) (cfg : ChannelConfig) : State :=
  (s.mixConfig ch cfg).outConfig ch cfg

theorem exec_configChannel {s : State} (h : s.accepts) {n : Byte} {ch : Chan} (hn : n.toNat = ch.val)
    {e : ChannelEntry} {cfg : ChannelConfig} (he : ChannelEntry.config e ch = some cfg) :
    exec (.configChannel n e) s = .next
      (((s.ack (.configChannel n e)).configured ch cfg).takeAllGone
        (claimsGone s.mix ((s.ack (.configChannel n e)).configured ch cfg).mix)) := by
  refine exec_of_served h (r := .configChannel n e) ?_
  rw [State.takeRequest, State.takeConfigChannel, byteFin_eq_some hn]
  dsimp only
  rw [he]
  rfl

section
variable (s : State) (ch : Chan) (cfg : ChannelConfig)

theorem mixOnly_configured : MixOnly s (s.configured ch cfg) :=
  (mixOnly_mixConfig s ch cfg).trans (mixOnly_outConfig _ ch cfg)

theorem configured_mixCh (c : Chan) : (s.configured ch cfg).mixCh c = (s.mixConfig ch cfg).mixCh c := rfl

/-- The channel's output record (R114, R123). -/
theorem configured_outCh : ((s.configured ch cfg).outCh ch).buffered.mode = cfg.mode
    ∧ ((s.configured ch cfg).outCh ch).buffered.period = cfg.period
    ∧ ((s.configured ch cfg).outCh ch).buffered.deadTime = cfg.deadTime
    ∧ ((s.configured ch cfg).outCh ch).active = (s.outCh ch).active
    ∧ ((s.configured ch cfg).outCh ch).paired = (s.outCh ch).paired
    ∧ ((s.configured ch cfg).outCh ch).safe = cfg.safe
    ∧ ((s.configured ch cfg).outCh ch).mask = cfg.mask
    ∧ ((s.configured ch cfg).outCh ch).shutdown = ((s.outCh ch).shutdown
        || (List.finRange 2).any fun k => cfg.mask.getLsbD k.val && (s.out.sources[k]).asserted) := by
  have hd := mixConfig_sameButDuty s ch cfg ch
  rw [State.configured, outConfig_outCh, namesAsserted_eq, mixConfig_sources, hd]
  exact ⟨rfl, rfl, rfl, rfl, rfl, rfl, rfl, rfl⟩

theorem configured_sameButDuty {c : Chan} (h : c ≠ ch) :
    (s.outCh c).sameButDuty ((s.configured ch cfg).outCh c) := by
  rw [State.configured, outConfig_outCh_of_ne _ cfg h]
  exact mixConfig_sameButDuty s ch cfg c

/-- The channel in the mixer (R106). -/
theorem configured_own : ((s.configured ch cfg).mixCh ch).arbitration = cfg.arbitration
    ∧ ((s.configured ch cfg).mixCh ch).curve = cfg.curve
    ∧ ((s.configured ch cfg).mixCh ch).claims = (s.mixCh ch).claims
    ∧ ((s.configured ch cfg).mixCh ch).secondary = (s.mixCh ch).secondary
    ∧ ((s.mixCh ch).secondary = false →
      ((s.configured ch cfg).mixCh ch).level = (s.mixCh ch).claims.level cfg.arbitration) := by
  have h : (s.configured ch cfg).mixCh ch = (s.rearbitrated ch cfg).mixCh ch :=
    congrArg Prod.fst (viewOf_mixConfig s ch cfg)
  rw [h]
  exact rearbitrated_mixCh s ch cfg

/-- The partner of an even channel (R107). -/
theorem configured_partner (h : isOdd ch = false) :
    ((s.configured ch cfg).mixCh (oddPartner ch)).secondary = (cfg.mode == .pair)
      ∧ (cfg.mode = .pair → (s.mixCh (oddPartner ch)).secondary = false →
          ((s.configured ch cfg).mixCh (oddPartner ch)).claims = .empty
          ∧ ((s.configured ch cfg).mixCh (oddPartner ch)).level = 0
          ∧ ((s.configured ch cfg).outCh (oddPartner ch)).buffered = (s.outCh (oddPartner ch)).buffered)
      ∧ (cfg.mode = .pair → (s.mixCh (oddPartner ch)).secondary = true →
          (s.configured ch cfg).mixCh (oddPartner ch) = s.mixCh (oddPartner ch))
      ∧ (cfg.mode ≠ .pair → (s.mixCh (oddPartner ch)).secondary = true →
          ((s.configured ch cfg).mixCh (oddPartner ch)).level = 0
          ∧ ((s.configured ch cfg).outCh (oddPartner ch)).buffered.duty
              = s.mix.duty (s.mixCh (oddPartner ch)).curve 0) := by
  have hout : (s.configured ch cfg).outCh (oddPartner ch) = (s.mixConfig ch cfg).outCh (oddPartner ch) :=
    outConfig_outCh_of_ne _ cfg (oddPartner_ne h)
  rw [configured_mixCh, hout]
  by_cases hm : cfg.mode = .pair
  · obtain ⟨hmix, ho⟩ := mixConfig_partner_of_pair s ch cfg h hm
    rw [hmix, ho, MixChannel.becomeSecondary]
    refine ⟨?_, fun _ hs => ?_, fun _ hs => if_pos hs, fun hne => absurd hm hne⟩
    · rw [hm]
      split
      · assumption
      · rfl
    · rw [hs]
      exact ⟨rfl, rfl, rfl⟩
  · obtain ⟨hs, hduty⟩ := mixConfig_partner_of_single s ch cfg h hm
    exact ⟨hs.trans (beq_eq_false_iff_ne.2 hm).symm, fun hp => absurd hp hm, fun hp => absurd hp hm,
      fun _ => hduty⟩

end

theorem configured_held (s : State) (ch : Chan) (cfg : ChannelConfig) :
    (s.configured ch cfg).mix.held = s.mix.held := held_mixConfig s ch cfg

theorem configured_curves (s : State) (ch : Chan) (cfg : ChannelConfig) :
    (s.configured ch cfg).mix.curves = s.mix.curves := mixConfig_curves s ch cfg

theorem configured_sources (s : State) (ch : Chan) (cfg : ChannelConfig) :
    (s.configured ch cfg).out.sources = s.out.sources := mixConfig_sources s ch cfg

/-- What follows an ACK that stands last in the outbound queue. -/
theorem outbound_of_keeps {s u t : State} {r : Request} (hu : u.link = (s.ack r).link) (hk : Keeps u t) :
    (∃ l, t.link.outbound = s.link.outbound ++ .reply (.ack r.kind) :: l) ∧ t.link.service = none := by
  obtain ⟨l, hl, -⟩ := hk.outbound
  have hs := hk.service
  rw [hu, State.ack, reply_eq] at hl hs
  exact ⟨⟨l, by rw [hl, List.append_assoc]; rfl⟩, hs⟩

/-- Settles O35. -/
theorem configChannelTakesEffect : Obligations.ConfigChannelTakesEffect := by
  intro s n ch e cfg hacc hn he r
  have hexec := exec_configChannel hacc hn he
  have hm := mixOnly_configured (s.ack r) ch cfg
  obtain ⟨hmode, hperiod, hdead, hactive, hpaired, hsafe, hmask, hshut⟩ :=
    configured_outCh (s.ack r) ch cfg
  obtain ⟨harb, hcurve, hclaims, hsec, hlevel⟩ := configured_own (s.ack r) ch cfg
  have hpartner := configured_partner (s.ack r) ch cfg
  have hother := fun c => configured_sameButDuty (s.ack r) ch cfg (c := c)
  have hheld := configured_held (s.ack r) ch cfg
  have hcurves := configured_curves (s.ack r) ch cfg
  have hsources := configured_sources (s.ack r) ch cfg
  obtain ⟨u, hu⟩ : ∃ u, u = (s.ack r).configured ch cfg := ⟨_, rfl⟩
  rw [← hu] at hm hmode hperiod hdead hactive hpaired hsafe hmask hshut
  rw [← hu] at harb hcurve hclaims hsec hlevel hother hheld hcurves hsources
  rw [← hu] at hpartner
  obtain ⟨t, ht⟩ : ∃ t, t = u.takeAllGone (claimsGone s.mix u.mix) := ⟨_, rfl⟩
  obtain ⟨order, ho, hleft⟩ := leftInOrder_takeAllGone (claimsGone_nodup s.mix u.mix) u
  rw [← ht] at hleft
  have hctx : ∀ p, u.ctx p = s.ctx p := fun p => hm.ctx p
  rw [claimsGone_filter (t := t) hctx hleft.mix] at ho
  have hshows : s.showsGone t (s.ack r) order :=
    hleft.showsGone hm (fun _ => rfl) rfl ho rfl rfl rfl
  obtain ⟨hout, hserve⟩ := outbound_of_keeps hm.link (ht ▸ (keeps_takeAllGone u _).toKeeps)
  have houtCh : ∀ c, t.outCh c = u.outCh c := fun c => by rw [State.outCh, hleft.out]; rfl
  have hmixCh : ∀ c, t.mixCh c = u.mixCh c := fun c => by rw [State.mixCh, hleft.mix]; rfl
  rw [← hu, ← ht] at hexec
  refine ⟨t, hexec, ?_⟩
  simp only [houtCh, hmixCh]
  refine ⟨hmode, hperiod, hdead, hactive, hpaired, hsafe, hmask, hshut, hother,
    by rw [hleft.out]; exact hsources, harb, hcurve, hclaims, hlevel, fun _ => hsec,
    fun hodd => ⟨hsec, hpartner hodd⟩, fun p hp => ?_, ⟨order, hshows⟩, hleft.store.trans hm.store,
    hleft.trig.trans hm.trig, hleft.clk.trans hm.clk, hleft.cells.trans hm.cells,
    by rw [hleft.mix]; exact hheld, by rw [hleft.mix]; exact hcurves, hout, hserve⟩
  obtain ⟨-, hc, -, -⟩ := hshows
  rw [hc, if_neg fun hp' => hp ?_]
  rw [Context.phase, (mem_leaving.1 (ho.mem_iff.1 hp')).1]
  rfl

end Sys2Proof.Machine
end

section
/-! Offers of a record to the contexts, and the service of a FIXED record (R155, R156, R158, O44). -/

namespace Sys2Proof.Machine

/-! ### Answers by phase (the table of R155) -/

theorem answer_go_none (c : Context) : c.answer (.go none) = (match c.phase with
    | .idle => if ptrEnd c.home then .refused .noCue else .taken
    | .fetch => .waits
    | .fade | .hold | .wait => .taken
    | .paused | .releasing => .waits
    | .faulted => .refused .faulted) := by
  unfold Context.answer Context.goVerdict Context.phase
  cases c.activity with
  | idle => cases h : ptrEnd c.home <;> simp [Activity.phase]
  | running cue at_ => cases at_ <;> rfl
  | fetch _ _ => rfl
  | paused _ _ => rfl
  | releasing => rfl
  | faulted _ _ => rfl

theorem answer_go_some (c : Context) (field : Half) : c.answer (.go (some field)) = (match c.phase with
    | .idle => .taken
    | .fetch => .waits
    | .fade | .hold | .wait => .taken
    | .paused => .waits
    | .releasing => .taken
    | .faulted => .refused .faulted) := by
  unfold Context.answer Context.goVerdict Context.phase
  cases c.activity with
  | running cue at_ => cases at_ <;> rfl
  | idle => rfl
  | fetch _ _ => rfl
  | paused _ _ => rfl
  | releasing => rfl
  | faulted _ _ => rfl

theorem answer_release (c : Context) (fade : Nat) :
    c.answer (.release fade) = (match c.phase with | .fetch => .waits | _ => .taken) := by
  unfold Context.answer Context.phase
  cases c.activity with
  | running cue at_ => cases at_ <;> rfl
  | idle => rfl
  | fetch _ _ => rfl
  | paused _ _ => rfl
  | releasing => rfl
  | faulted _ _ => rfl

/-! ### One offer (R156, R158) -/

/-- Whether a delivery is a GO, whose taker joins the held-by set and the marks the record (R139, R154). -/
def Delivery.isGo : Delivery → Bool
  | .go _ => true
  | _ => false

/-- The part after a context has taken a record's delivery (R139, R155; log 25). -/
def State.tookOffer (s : State) (r : DeliveryRecord) (p : Ctx) : State :=
  let t := (s.deliver p r.delivery).setKnown p ((s.deliver p r.delivery).ctx p).phase
  if r.delivery.isGo then t.joinHeldBy r.source p else t

section
variable {s : State} {r : DeliveryRecord} {p : Ctx}

theorem offer_of_taken (h : (s.ctx p).answer r.delivery = .taken) : s.offer r p
    = (.taken, { r with remaining := ctxOut r.remaining p, taken := r.taken || r.delivery.isGo },
        s.tookOffer r p) := by
  unfold State.offer State.tookOffer
  rw [h]
  cases hd : r.delivery with
  | go pointer => simp [Delivery.isGo]
  | release fade => simp [Delivery.isGo]
  | stop => simp [Delivery.isGo]

theorem offer_of_waits (h : (s.ctx p).answer r.delivery = .waits) : s.offer r p = (.waits, r, s) := by
  unfold State.offer
  rw [h]

theorem offer_of_refused {why : Reason} (h : (s.ctx p).answer r.delivery = .refused why) : s.offer r p
    = (.refused why, { r with remaining := ctxOut r.remaining p },
        s.notify (.triggerRefused r.source p r.delivery.action why)) := by
  unfold State.offer
  rw [h]

end

/-! ### What a taken offer does (R139, R155) -/

/-- A delivery leaves TRIG as it is. -/
theorem deliver_trig (s : State) (p : Ctx) (d : Delivery) : (s.deliver p d).trig = s.trig :=
  (ctxStep_deliver p s d).trig

theorem joinHeldBy_ctx (s : State) (src : Source) (p q : Ctx) : (s.joinHeldBy src p).ctx q = s.ctx q := by
  unfold State.joinHeldBy
  split
  · split <;> rfl
  · rfl

theorem joinHeldBy_known (s : State) (src : Source) (p : Ctx) :
    (s.joinHeldBy src p).trig.known = s.trig.known := by
  unfold State.joinHeldBy
  split
  · split <;> rfl
  · rfl

theorem joinHeldBy_config (s : State) (src : Source) (p : Ctx) (l : Line) :
    ((s.joinHeldBy src p).trigger l).config = (s.trigger l).config := by
  unfold State.joinHeldBy
  split
  · split
    · rw [State.modTrigger_trigger]
      split
      · next h => rw [h]
      · rfl
    · rfl
  · rfl

/-- The held-by set of a LEVEL entry that its record's taker joins (R139). -/
theorem joinHeldBy_heldBy {s : State} {l : Line} (h : (s.trigger l).config.sense = .level) (p : Ctx) :
    ((s.joinHeldBy (.line l) p).trigger l).heldBy = (s.trigger l).heldBy ||| ctxBit p := by
  unfold State.joinHeldBy
  dsimp only
  rw [if_pos h, State.modTrigger_trigger, if_pos rfl]

section
variable (s : State) (r : DeliveryRecord) (p : Ctx)

theorem tookOffer_ctx (q : Ctx) : (s.tookOffer r p).ctx q = (s.deliver p r.delivery).ctx q := by
  unfold State.tookOffer
  dsimp only
  split
  · rw [joinHeldBy_ctx]
    rfl
  · rfl

theorem tookOffer_known (q : Ctx) : (s.tookOffer r p).trig.known[q]
    = if q = p then ((s.tookOffer r p).ctx p).phase else s.trig.known[q] := by
  have hk : (s.tookOffer r p).trig.known
      = s.trig.known.set p ((s.deliver p r.delivery).ctx p).phase := by
    rw [← deliver_trig s p r.delivery, State.tookOffer]
    split
    · rw [joinHeldBy_known]
      rfl
    · rfl
  rw [tookOffer_ctx, hk]
  by_cases hq : q = p
  · subst hq
    simp
  · rw [if_neg hq]
    exact Vector.getElem_set_ne p.isLt q.isLt fun hpq => hq (Fin.ext hpq.symm)

theorem setKnown_trigger (ph : Phase) (l : Line) : (s.setKnown p ph).trigger l = s.trigger l := rfl

theorem deliver_trigger (d : Delivery) (l : Line) : (s.deliver p d).trigger l = s.trigger l := by
  rw [State.trigger, deliver_trig]
  rfl

theorem tookOffer_config (l : Line) : ((s.tookOffer r p).trigger l).config = (s.trigger l).config := by
  unfold State.tookOffer
  dsimp only
  split
  · rw [joinHeldBy_config, setKnown_trigger, deliver_trigger]
  · rw [setKnown_trigger, deliver_trigger]

theorem tookOffer_heldBy {l : Line} (hr : r.source = .line l) (hs : (s.trigger l).config.sense = .level) :
    ((s.tookOffer r p).trigger l).heldBy
      = (s.trigger l).heldBy ||| (if r.delivery.isGo then ctxBit p else 0) := by
  unfold State.tookOffer
  dsimp only
  rw [hr]
  split
  · rw [joinHeldBy_heldBy (by rw [setKnown_trigger, deliver_trigger]; exact hs), setKnown_trigger,
      deliver_trigger]
  · rw [setKnown_trigger, deliver_trigger]
    exact (BitVec.or_zero).symm

end

/-! ### Offers to several contexts (R156) -/

/-- A context takes a delivery in a state. -/
def State.takes (s : State) (d : Delivery) (p : Ctx) : Bool := (s.ctx p).answer d == .taken

/-- The set of the contexts of a list. -/
def bitsOf (l : List Ctx) : CtxSet := l.foldl (fun acc p => acc ||| ctxBit p) 0

theorem foldl_bits (l : List Ctx) (x : CtxSet) :
    l.foldl (fun acc p => acc ||| ctxBit p) x = x ||| bitsOf l := by
  induction l generalizing x with
  | nil => exact (BitVec.or_zero).symm
  | cons p ps ih =>
    have h : bitsOf (p :: ps) = ctxBit p ||| bitsOf ps :=
      (ih _).trans (congrArg (· ||| bitsOf ps) BitVec.zero_or)
    rw [List.foldl_cons, ih, h, BitVec.or_assoc]

theorem bitsOf_append (a b : List Ctx) : bitsOf (a ++ b) = bitsOf a ||| bitsOf b := by
  rw [bitsOf, List.foldl_append, foldl_bits]
  rfl

/-- What the offers of a record to the contexts of a list make of the record and of the part. -/
structure Served (l : List Ctx) (r : DeliveryRecord) (s : State) (r1 : DeliveryRecord) (s1 : State) :
    Prop where
  record : r1 = { r with
    remaining := r1.remaining
    taken := r.taken || (r.delivery.isGo && l.any (s.takes r.delivery)) }
  remaining : ∀ p, ctxIn p r1.remaining
    = (ctxIn p r.remaining && (decide (p ∉ l) || (s.ctx p).answer r.delivery == .waits))
  others : ∀ p, (p ∉ l ∨ (s.ctx p).answer r.delivery ≠ .taken) →
    s1.ctx p = s.ctx p ∧ s1.trig.known[p] = s.trig.known[p]
  takers : ∀ p ∈ l, (s.ctx p).answer r.delivery = .taken → s1.trig.known[p] = (s1.ctx p).phase
  config : ∀ k, (s1.trigger k).config = (s.trigger k).config
  heldBy : ∀ k, r.source = .line k → (s.trigger k).config.sense = .level →
    (s1.trigger k).heldBy = (s.trigger k).heldBy
      ||| (if r.delivery.isGo then bitsOf (l.filter (s.takes r.delivery)) else 0)

theorem served_nil (r : DeliveryRecord) (s : State) : Served [] r s r s where
  record := by simp
  remaining p := by simp
  others _ _ := ⟨rfl, rfl⟩
  takers _ hp := absurd hp List.not_mem_nil
  config _ := rfl
  heldBy _ _ _ := by simp [bitsOf]

/-- One offer, whatever the answer. -/
theorem served_offer (s : State) (r : DeliveryRecord) (p : Ctx) :
    Served [p] r s (s.offer r p).2.1 (s.offer r p).2.2 := by
  cases ha : (s.ctx p).answer r.delivery with
  | taken =>
    rw [offer_of_taken ha]
    have ht : s.takes r.delivery p = true := by rw [State.takes, ha]; rfl
    refine ⟨by simp [ht], fun q => ?_, fun q hq => ?_, fun q hq _ => ?_, tookOffer_config s r p,
      fun k hr hs => ?_⟩
    · rw [ctxIn_ctxOut]
      by_cases hq : q = p
      · subst hq
        simp [ha]
      · simp [hq]
    · have hne : q ≠ p := fun h => by
        subst h
        exact hq.elim (fun h => h List.mem_cons_self) (fun h => h ha)
      rw [tookOffer_ctx, tookOffer_known, if_neg hne]
      exact ⟨(ctxStep_deliver p s _).ctx q hne, rfl⟩
    · rw [List.mem_singleton.1 hq, tookOffer_known, if_pos rfl]
    · rw [tookOffer_heldBy s r p hr hs, List.filter_cons_of_pos ht]
      simp [bitsOf]
  | waits =>
    rw [offer_of_waits ha]
    have ht : s.takes r.delivery p = false := by rw [State.takes, ha]; rfl
    refine ⟨by simp [ht], fun q => ?_, fun q _ => ⟨rfl, rfl⟩, fun q hq h => ?_, fun _ => rfl,
      fun k _ _ => by simp [ht, bitsOf]⟩
    · by_cases hq : q = p
      · subst hq
        simp [ha]
      · simp [hq]
    · rw [List.mem_singleton.1 hq, ha] at h
      cases h
  | refused why =>
    rw [offer_of_refused ha]
    have ht : s.takes r.delivery p = false := by rw [State.takes, ha]; rfl
    have htrig : ∀ n, (s.notify n).trig = s.trig := fun n => (keeps_notify s n).trig
    refine ⟨by simp [ht], fun q => ?_, fun q _ => ⟨notify_ctx s _ q, by rw [htrig]⟩, fun q hq h => ?_,
      fun k => by rw [State.trigger, htrig]; rfl, fun k _ _ => ?_⟩
    · rw [ctxIn_ctxOut]
      by_cases hq : q = p
      · subst hq
        simp [ha]
      · simp [hq]
    · rw [List.mem_singleton.1 hq, ha] at h
      cases h
    · rw [State.trigger, htrig]
      simp [ht, bitsOf, State.trigger]

/-- Offers to further contexts: no offer reaches another context's answer. -/
theorem Served.cons {p : Ctx} {ps : List Ctx} {r r1 r2 : DeliveryRecord} {s s1 s2 : State}
    (h : Served [p] r s r1 s1) (k : Served ps r1 s1 r2 s2) (hp : p ∉ ps) :
    Served (p :: ps) r s r2 s2 := by
  have hd : r1.delivery = r.delivery := by rw [h.record]
  have hsource : r1.source = r.source := by rw [h.record]
  have hctx : ∀ q, q ≠ p → s1.ctx q = s.ctx q := fun q hq =>
    (h.others q (.inl fun hq' => hq (List.mem_singleton.1 hq'))).1
  have htakes : ∀ q ∈ ps, s1.takes r.delivery q = s.takes r.delivery q := fun q hq => by
    rw [State.takes, hctx q fun hqp => hp (hqp ▸ hq)]
    rfl
  have hany : ps.any (s1.takes r.delivery) = ps.any (s.takes r.delivery) := by
    rw [Bool.eq_iff_iff, List.any_eq_true, List.any_eq_true]
    exact exists_congr fun q => and_congr_right fun hq => by rw [htakes q hq]
  refine ⟨?_, fun q => ?_, fun q hq => ?_, fun q hq ha => ?_, fun l => (k.config l).trans (h.config l),
    fun l hr hs => ?_⟩
  · have hk := k.record
    rw [hd, hany, h.record] at hk
    rw [hk]
    simp [Bool.and_or_distrib_left, Bool.or_assoc]
  · rw [k.remaining, h.remaining, hd]
    by_cases hq : q = p
    · subst hq
      simp [hp]
    · simp [hq, hctx q hq]
  · by_cases hqp : q = p
    · subst hqp
      have ha := hq.resolve_left fun h => h List.mem_cons_self
      obtain ⟨hk1, hk2⟩ := k.others q (.inl hp)
      obtain ⟨h1, h2⟩ := h.others q (.inr ha)
      exact ⟨hk1.trans h1, hk2.trans h2⟩
    · obtain ⟨h1, h2⟩ := h.others q (.inl fun hq' => hqp (List.mem_singleton.1 hq'))
      obtain ⟨hk1, hk2⟩ := k.others q (hq.imp (fun hq' hm => hq' (List.mem_cons_of_mem _ hm))
        fun ha => by rwa [hctx q hqp, hd])
      exact ⟨hk1.trans h1, hk2.trans h2⟩
  · rcases List.mem_cons.1 hq with rfl | hm
    · obtain ⟨hk1, hk2⟩ := k.others q (.inl hp)
      rw [hk1, hk2]
      exact h.takers q List.mem_cons_self ha
    · exact k.takers q hm (by rwa [hctx q fun hqp => hp (hqp ▸ hm), hd])
  · have hr1 : r1.source = .line l := hsource.trans hr
    have hfilter : (p :: ps).filter (s.takes r.delivery)
        = [p].filter (s.takes r.delivery) ++ ps.filter (s.takes r.delivery) :=
      List.filter_append [p] ps
    rw [k.heldBy l hr1 (by rwa [h.config]), h.heldBy l hr hs, hd, List.filter_congr htakes, hfilter,
      bitsOf_append]
    cases r.delivery.isGo
    · simp
    · simp [BitVec.or_assoc]

/-- A record offered to the contexts of a list in its order. -/
def State.offerAll (s : State) (r : DeliveryRecord) (l : List Ctx) : DeliveryRecord × State :=
  l.foldl (fun acc p => (acc.2.offer acc.1 p).2) (r, s)

theorem served_offerAll {l : List Ctx} (hn : l.Nodup) (s : State) (r : DeliveryRecord) :
    Served l r s (s.offerAll r l).1 (s.offerAll r l).2 := by
  induction l generalizing s r with
  | nil => exact served_nil r s
  | cons p ps ih =>
    obtain ⟨hp, hn⟩ := List.nodup_cons.1 hn
    exact (served_offer s r p).cons (ih hn _ _) hp

/-! ### The service of a FIXED record (R156) -/

/-- The contexts of a record's remaining set, P0 first. -/
def DeliveryRecord.targets (r : DeliveryRecord) : List Ctx := allCtx.filter fun p => ctxIn p r.remaining

theorem serveFixed_eq (s : State) (r : DeliveryRecord) : s.serveFixed r
    = ((s.offerAll r r.targets).1, (s.offerAll r r.targets).1.remaining == 0, (s.offerAll r r.targets).2) := by
  have h : s.offerAll r r.targets = allCtx.foldl (fun (acc : DeliveryRecord × State) p =>
      if ctxIn p r.remaining then (acc.2.offer acc.1 p).2 else acc) (r, s) := List.foldl_filter
  rw [h]
  rfl

theorem mem_targets {r : DeliveryRecord} {p : Ctx} : p ∈ r.targets ↔ ctxIn p r.remaining = true := by
  have hp : p ∈ allCtx := by revert p; decide
  simp [DeliveryRecord.targets, hp]

/-- All that the service of a FIXED record shows (R139, R155, R156). -/
theorem serveFixed_shows (s : State) (r : DeliveryRecord) :
    let z := s.serveFixed r
    (∀ p, ctxIn p z.1.remaining
      = (ctxIn p r.remaining && (s.ctx p).answer r.delivery == .waits))
    ∧ z.1.taken = (r.taken || ((match r.delivery with | .go _ => true | _ => false)
        && allCtx.any fun p => ctxIn p r.remaining && (s.ctx p).answer r.delivery == .taken))
    ∧ (z.2.1 = true ↔ z.1.remaining = 0)
    ∧ z.1.source = r.source ∧ z.1.delivery = r.delivery ∧ z.1.mode = r.mode
    ∧ z.1.expiry = r.expiry
    ∧ (∀ p, (ctxIn p r.remaining = false ∨ (s.ctx p).answer r.delivery ≠ .taken) →
        z.2.2.ctx p = s.ctx p ∧ z.2.2.trig.known[p] = s.trig.known[p])
    ∧ (∀ p, ctxIn p r.remaining = true → (s.ctx p).answer r.delivery = .taken →
        z.2.2.trig.known[p] = (z.2.2.ctx p).phase)
    ∧ (∀ l, r.source = .line l → (s.trigger l).config.sense = .level →
        (z.2.2.trigger l).heldBy = (s.trigger l).heldBy ||| (match r.delivery with
          | .go _ => (allCtx.filter fun p => ctxIn p r.remaining
              && (s.ctx p).answer r.delivery == .taken).foldl (fun acc p => acc ||| ctxBit p) 0
          | _ => 0)) := by
  have h := served_offerAll (allCtx_nodup.filter fun p => ctxIn p r.remaining) s r
  rw [serveFixed_eq]
  rw [← DeliveryRecord.targets] at h
  generalize s.offerAll r r.targets = z at h ⊢
  have hrec := h.record
  have htakers : r.targets.filter (s.takes r.delivery) = allCtx.filter fun p => ctxIn p r.remaining
      && (s.ctx p).answer r.delivery == .taken := by
    rw [DeliveryRecord.targets, List.filter_filter]
    exact List.filter_congr fun p _ => Bool.and_comm _ _
  refine ⟨fun p => ?_, ?_, by simp, by rw [hrec], by rw [hrec], by rw [hrec], by rw [hrec],
    fun p hp => ?_, fun p hp => h.takers p (mem_targets.2 hp), fun l hr hs => ?_⟩
  · rw [h.remaining]
    cases hp : ctxIn p r.remaining with
    | false => rfl
    | true => simp [mem_targets, hp]
  · rw [hrec, DeliveryRecord.targets, List.any_filter]
    cases r.delivery <;> rfl
  · refine h.others p (hp.imp_left fun hp hm => ?_)
    exact absurd ((mem_targets.1 hm).symm.trans hp) (by decide)
  · rw [h.heldBy l hr hs, htakers]
    cases r.delivery <;> rfl

/-! ### The offer written out -/

theorem joinHeldBy_eq {s t : State} (h : t.trig.triggers = s.trig.triggers) (src : Source) (p : Ctx) :
    t.joinHeldBy src p = match src with
      | .line l =>
        let joined : Trigger := { s.trigger l with heldBy := (s.trigger l).heldBy ||| ctxBit p }
        if (s.trigger l).config.sense = .level then
          { t with trig := { t.trig with triggers := t.trig.triggers.set l joined } }
        else t
      | .matcher _ => t := by
  have ht : ∀ l, t.trigger l = s.trigger l := fun l => by rw [State.trigger, h]; rfl
  cases src with
  | line l =>
    unfold State.joinHeldBy State.modTrigger
    dsimp only
    rw [← ht]
    rfl
  | matcher m => rfl

/-- Settles O44. -/
theorem offersAndFixedRecords : Obligations.OffersAndFixedRecords := by
  refine ⟨fun c field fade => ⟨answer_go_none c, answer_go_some c field, answer_release c fade, rfl⟩,
    serveFixed_shows, fun s r => rfl, fun s r p => ?_, fun s p => ⟨fun field => rfl, ?_,
      fun n h hn => exec_stop h hn, fun n fade h hn hf hp => ?_⟩⟩
  · intro out known
    cases ha : (s.ctx p).answer r.delivery with
    | waits => exact offer_of_waits ha
    | refused why => exact offer_of_refused ha
    | taken =>
      rcases r with ⟨source, delivery, mode, remaining, expiry, taken⟩
      refine (offer_of_taken ha).trans ?_
      cases delivery with
      | go pointer =>
        refine Prod.ext rfl (Prod.ext (by simp only [Delivery.isGo, Bool.or_true]; rfl) ?_)
        have ht : (s.takeGo p pointer).trig.triggers = s.trig.triggers :=
          congrArg TriggerUnit.triggers (deliver_trig s p (.go pointer))
        exact joinHeldBy_eq (s := s) (t := (s.takeGo p pointer).setKnown p
          ((s.takeGo p pointer).ctx p).phase) ht source p
      | release fade =>
        exact Prod.ext rfl (Prod.ext (by simp only [Delivery.isGo, Bool.or_false]; rfl) rfl)
      | stop => exact Prod.ext rfl (Prod.ext (by simp only [Delivery.isGo, Bool.or_false]; rfl) rfl)
  · unfold State.takeGo
    cases (s.ctx p).activity <;> rfl
  · rw [exec_release h hn hf]
    split
    · next ha => exact absurd (by rw [Context.phase, ha]; rfl) hp
    · rfl

end Sys2Proof.Machine
end

section
/-! TRIG takes phase reports (R155, R198, O47). -/

namespace Sys2Proof.Machine

/-! ### The oldest report of a context (R42; log 11) -/

section
variable {p : Ctx} {r : Report} {before after : List Report}

theorem find?_report_none (h : ∀ q ∈ before, q.p ≠ p) : before.find? (fun q => q.p == p) = none :=
  List.find?_eq_none.2 fun q hq => by simpa using h q hq

theorem find?_report (hr : r.p = p) (h : ∀ q ∈ before, q.p ≠ p) :
    (before ++ r :: after).find? (fun q => q.p == p) = some r := by
  rw [List.find?_append, find?_report_none h, Option.none_or, List.find?_cons_of_pos (by simpa using hr)]

/-- The oldest report of its context is the first of its kind: taking it leaves the others. -/
theorem erase_report (hr : r.p = p) (h : ∀ q ∈ before, q.p ≠ p) :
    (before ++ r :: after).erase r = before ++ after := by
  rw [List.erase_append_right _ fun hm => h r hm hr, List.erase_cons_head]

end

/-! ### A report taken while others are owed (R135, R155, R198) -/

/-- A test while reports are owed, by its outcome. -/
theorem testOwing_eq (ex : State → List Report → State) (z : State × List Report) (l : Line) :
    State.testOwing ex z l =
      if z.1.levelHolds l = false then z
      else if z.1.firingOutcome (.line l) (z.1.trigger l).config.firing = .appended then
        (ex (z.1.act (.line l) (z.1.trigger l).config.firing) z.2, [])
      else (z.1.act (.line l) (z.1.trigger l).config.firing, z.2) := by
  unfold State.testOwing
  dsimp only
  cases z.1.levelHolds l with
  | false => rfl
  | true =>
    rw [if_pos rfl, if_neg (by decide)]
    cases z.1.firingOutcome (.line l) (z.1.trigger l).config.firing <;> rfl

theorem takeReportWith_eq (ex : State → List Report → State) (s : State) (q : Report)
    (owed : List Report) : s.takeReportWith ex q owed =
      (let s1 := s.setKnown q.p q.phase
       if q.phase = .idle then
         let z := (s1.emptiedBy q.p).foldl (fun acc l =>
           if acc.1.levelHolds l = false then acc
           else if acc.1.firingOutcome (.line l) (acc.1.trigger l).config.firing = .appended then
             (ex (acc.1.act (.line l) (acc.1.trigger l).config.firing) acc.2, [])
           else (acc.1.act (.line l) (acc.1.trigger l).config.firing, acc.2)) (s1.leaveHeldBy q.p, owed)
         ex z.1 z.2
       else ex s1 owed) := by
  have h : State.testOwing ex = _ := funext fun z => funext fun l => testOwing_eq ex z l
  rw [State.takeReportWith, h]

/-- The walk of an examination, after which the reports owed are taken in turn (R155). -/
def State.examineThen (k : Nat) (s : State) (owed : List Report) : State :=
  State.takeOwed k s.walkOnce.1 (owed ++ s.walkOnce.2)

/-- No report of the context stands: the one owed is taken. -/
theorem takeOwed_of_none (k : Nat) {s : State} {r : Report} (rest : List Report)
    (h : ∀ q ∈ s.reports, q.p ≠ r.p) :
    State.takeOwed (k + 1) s (r :: rest) = s.takeReportWith (State.examineThen k) r rest := by
  rw [State.takeOwed, find?_report_none h]
  rfl

/-- A report of the context stands: the oldest such is taken before the one owed (log 11). -/
theorem takeOwed_of_standing (k : Nat) {s : State} {r q : Report} (rest : List Report)
    {before after : List Report} (hs : s.reports = before ++ q :: after) (hq : q.p = r.p)
    (h : ∀ x ∈ before, x.p ≠ r.p) : State.takeOwed (k + 1) s (r :: rest)
      = State.takeReportWith (State.examineThen k) { s with reports := before ++ after } q (r :: rest) := by
  rw [State.takeOwed, hs, find?_report hq h]
  dsimp only
  rw [erase_report hq h]
  rfl

theorem exec_phaseReport {s : State} {p : Ctx} {r : Report} {before after : List Report}
    (hs : s.reports = before ++ r :: after) (hr : r.p = p) (h : ∀ q ∈ before, q.p ≠ p) :
    exec (.phaseReport p) s = .next (State.takeReport { s with reports := before ++ after } r) := by
  show execPhaseReport p s = _
  rw [execPhaseReport, hs, find?_report hr h]
  dsimp only
  rw [erase_report hr h]

/-- Settles O47. -/
theorem phaseReportsAreTaken : Obligations.PhaseReportsAreTaken := by
  refine ⟨fun s k r rest => ⟨takeOwed_nil k s, fun hs => ?_, fun before q after hs hq h => ?_⟩,
    fun s p r before after hs hr h => ?_⟩
  · rw [takeOwed_of_none k rest hs, takeReportWith_eq]
    rfl
  · rw [takeOwed_of_standing k rest hs hq h, takeReportWith_eq]
    rfl
  · subst hr
    rw [exec_phaseReport hs rfl h, takeReport_eq]
    rfl

end Sys2Proof.Machine
end

section
/-! IDENTIFY, QUERY_COUNTERS and STATUS (O5). -/

namespace Sys2Proof.Machine

/-- A request that its block answers so is answered so as a command at an accepting part, and where it is
brought into service (R181, R182). -/
theorem answered_by_block {s t : State} {r : Request} (hr : (s.serving r).takeRequest r = t) :
    (s.accepts → exec (requestCommand r) s = .next t)
      ∧ (s.isRunning = true → s.bringIntoService (.request r) = t) :=
  ⟨fun h => exec_of_served h hr, fun h => (bringIntoService_request h r).trans hr⟩

/-! ### The answers (R86, R193, R194) -/

theorem serving_identify (s : State) :
    (s.serving .identify).takeRequest .identify = s.reply (.identity s.link.rate) := rfl

theorem serving_queryCounters (s : State) :
    (s.serving .queryCounters).takeRequest .queryCounters = s.reply (.counterInfo s.cells) := rfl

/-- The two link flags are cleared behind the reply, which still shows them (R191). -/
theorem serving_status (s : State) : (s.serving .status).takeRequest .status
    = (s.reply (.status s.statusInfo)).modLink fun l => { l with dropped := false, overflow := false } :=
  rfl

/-! ### What the replies hold (section 11.4) -/

theorem identity_body (rate : LinkRate) : (Reply.identity rate).body
    = [0xC5, 0x24, 0x70, 0x09, 1, 0x00, 0x00, 0x01, 0x00, 4, 16, 24,
       match rate with | .slow => 0 | .fast => 1] := by
  cases rate <;> rfl

theorem counterInfo_body_length (cells : Vector Byte 16) : (Reply.counterInfo cells).body.length = 16 :=
  cells.length_toList

theorem counterInfo_body_getElem? (cells : Vector Byte 16) (k : Fin 16) :
    (Reply.counterInfo cells).body[k.val]? = some cells[k] := by
  have hk : k.val < cells.toList.length := cells.length_toList.symm ▸ k.isLt
  show cells.toList[k.val]? = some cells[k]
  rw [List.getElem?_eq_getElem hk, Vector.getElem_toList]
  rfl

/-- STATUS names the link store operation by the kind of the request that began it. -/
theorem linkOpKind_eq (op : Option LinkOp) : linkOpKind op = match op with
    | none => 0
    | some (.read _ _) => (Request.storeRead 0 0).kind
    | some (.program _ _) => (Request.storeProgram 0 []).kind
    | some (.eraseFrame _) => (Request.storeEraseFrame 0).kind
    | some .eraseAll => Request.storeEraseAll.kind
    | some .reloadCurves => Request.reloadCurves.kind := by
  cases op with
  | none => rfl
  | some op => cases op <;> rfl

/-- The four bits of a fault source's byte. -/
theorem faultSource_byte_bits (f : FaultSource) :
    (f.byte.getLsbD 0 = true ↔ f.mode = .follow) ∧ f.byte.getLsbD 1 = f.latch
      ∧ f.byte.getLsbD 2 = f.input ∧ f.byte.getLsbD 3 = f.asserted := by
  obtain ⟨mode, latch, input⟩ := f
  cases mode <;> revert latch input <;> decide

theorem getLsbD_chanBit (c k : Chan) : (1#16 <<< c.val).getLsbD k.val = decide (k = c) := by
  revert c k
  decide

/-- A channel that passes the test is put into the set, and no other place of the set changes. -/
theorem getLsbD_putChan (f : Chan → Bool) (set : BitVec 16) (c k : Chan) :
    (if f c then set ||| (1#16 <<< c.val) else set).getLsbD k.val
      = (set.getLsbD k.val || decide (k = c) && f k) := by
  by_cases hk : k = c
  · subst hk
    cases hf : f k with
    | true => rw [if_pos rfl, BitVec.getLsbD_or, getLsbD_chanBit, Bool.and_true]
    | false => rw [if_neg Bool.false_ne_true, Bool.and_false, Bool.or_false]
  · rw [decide_eq_false hk, Bool.false_and, Bool.or_false]
    split
    · rw [BitVec.getLsbD_or, getLsbD_chanBit, decide_eq_false hk, Bool.or_false]
    · rfl

theorem getLsbD_foldl_putChan (f : Chan → Bool) (l : List Chan) (set : BitVec 16) (k : Chan) :
    (l.foldl (fun acc ch => if f ch then acc ||| (1#16 <<< ch.val) else acc) set).getLsbD k.val
      = (set.getLsbD k.val || decide (k ∈ l) && f k) := by
  induction l generalizing set with
  | nil => simp
  | cons c l ih =>
    rw [List.foldl_cons, ih, getLsbD_putChan, Bool.or_assoc, ← Bool.and_or_distrib_right]
    simp only [List.mem_cons, Bool.decide_or]

/-- A channel stands in the set of a test exactly where it passes it (R196). -/
theorem getLsbD_chanSet (f : Chan → Bool) (k : Chan) : (chanSet f).getLsbD k.val = f k := by
  rw [chanSet, getLsbD_foldl_putChan]
  simp

/-- Settles O5. -/
theorem identifyCountersAndStatusAreAnswered : Obligations.IdentifyCountersAndStatusAreAnswered := by
  refine ⟨fun s => ?_, fun s => ?_, fun s hs => ?_⟩
  · obtain ⟨hexec, hserve⟩ := answered_by_block (serving_identify s)
    exact ⟨hexec, hserve, identity_body _⟩
  · obtain ⟨hexec, hserve⟩ := answered_by_block (serving_queryCounters s)
    exact ⟨hexec, hserve, counterInfo_body_length _, counterInfo_body_getElem? _⟩
  · obtain ⟨hexec, hserve⟩ := answered_by_block (serving_status s)
    have hphases : ∀ p : Ctx, s.statusInfo.phases[p] = (s.ctx p).phase := fun p =>
      Vector.getElem_ofFn p.isLt
    exact ⟨s.statusInfo, hserve hs, hexec, rfl, rfl, rfl, rfl, rfl, linkOpKind_eq _, hphases, rfl,
      faultSource_byte_bits, getLsbD_chanSet _, rfl, rfl, rfl, rfl, rfl, rfl, rfl⟩

end Sys2Proof.Machine
end

section
/-! The loop operation on a counter cell (O20), and the posts and counter cells (O27). -/

namespace Sys2Proof.Machine

/-! ### The loop operation (R82) -/

/-- A cell above 0 is lowered by one, and the answer is LOOP. -/
theorem loopOperation_of_pos {value : Byte} (h : 0 < value.toNat) (reload : Byte) :
    (loopOperation value reload).1 = true ∧ (loopOperation value reload).2.toNat = value.toNat - 1 := by
  have h0 : value ≠ 0 := by
    rintro rfl
    exact absurd h (by decide)
  rw [loopOperation, if_neg h0]
  exact ⟨rfl, by bv_omega⟩

/-- A cell of 0 takes the reload value, and the answer is NEXT. -/
theorem loopOperation_zero (reload : Byte) : loopOperation 0 reload = (false, reload) := rfl

/-- A normal completion of a cue with a loop block. -/
theorem completeNormally_of_loop {cue : Cue} {b : LoopBlock} (h : cue.loop = some b) (s : State) (p : Ctx) :
    s.completeNormally p cue
      = State.enterFetch { s with cells := s.cells.set b.cell (loopOperation s.cells[b.cell] b.reload).2 } p
          (if (loopOperation s.cells[b.cell] b.reload).1 then b.pointer else cue.next) := by
  rw [State.completeNormally, h]

/-- Settles O20. -/
theorem loopOperation_takenWhole : Obligations.LoopOperation := by
  refine ⟨fun value reload h => loopOperation_of_pos h reload, loopOperation_zero, fun s p cue b h => ?_⟩
  rw [completeNormally_of_loop h]
  exact ⟨enterFetch_cells _ p _, enterFetch_hasFollowed _ p _⟩

/-! ### POST_EVENT and SET_COUNTER (R80, R85) -/

section
variable {s : State} (h : s.accepts) {n : Byte}
include h

theorem exec_postEvent {e : EventId} (hn : n.toNat = e.val) : exec (.postEvent n) s = .next
    { s.ack (.postEvent n) with posts := s.posts ++ [(0, e), (1, e), (2, e), (3, e)] } := by
  refine exec_of_served h (r := .postEvent n) ?_
  rw [State.takeRequest, State.takePostEvent, byteFin_eq_some hn]
  rfl

theorem postEvent_refused (hn : 31 < n.toNat) :
    exec (.postEvent n) s = .next (s.refuse (.postEvent n) .badField) := by
  refine exec_of_refused h (r := .postEvent n) ?_
  rw [State.takeRequest, State.takePostEvent, byteFin_eq_none hn]

theorem exec_setCounter {k : Fin 16} (hn : n.toNat = k.val) (value : Byte) :
    exec (.setCounter n value) s = .next
      { s.ack (.setCounter n value) with cells := s.cells.set k value } := by
  refine exec_of_served h (r := .setCounter n value) ?_
  rw [State.takeRequest, State.takeSetCounter, byteFin_eq_some hn]
  rfl

theorem setCounter_refused (hn : 15 < n.toNat) (value : Byte) :
    exec (.setCounter n value) s = .next (s.refuse (.setCounter n value) .badField) := by
  refine exec_of_refused h (r := .setCounter n value) ?_
  rw [State.takeRequest, State.takeSetCounter, byteFin_eq_none hn]

end

/-! ### A post at a context (R72, R76) -/

/-- The event of a post joins a context's arrival set (R72). -/
def State.arrived (s : State) (p : Ctx) (e : EventId) : State := s.modCtx p fun c => c.arrive e

theorem arrived_ctx (s : State) (p : Ctx) (e : EventId) :
    (s.arrived p e).ctx p = (s.ctx p).arrive e := by rw [State.arrived, State.modCtx_ctx, if_pos rfl]

theorem phaseStep_arrived (p : Ctx) (s : State) (e : EventId) : PhaseStep p s (s.arrived p e) :=
  ⟨.of_keeps (keeps_modCtx s p _ rfl rfl) rfl
    (fun q hq => (State.modCtx_ctx s p q _).trans (if_neg hq)) rfl, rfl, rfl⟩

theorem arrive_getLsbD (c : Context) (e k : EventId) :
    (c.arrive e).arrivals.getLsbD k.val = (c.arrivals.getLsbD k.val || k == e) := by
  have hbit : (1#32 <<< e.val).getLsbD k.val = (k == e) := by
    revert e k
    decide
  rw [Context.arrive, BitVec.getLsbD_or, hbit]

/-- The post that a context waits for completes its cue (R76). -/
theorem takePost_of_awaited {s : State} {p : Ctx} {cue : Cue} {e : EventId} {n : Nat} {field : Half}
    (h : (s.ctx p).activity = .running cue (.wait (.event e n field))) :
    s.takePost p e = (s.arrived p e).completeNormally p cue := by
  rw [State.takePost, h]
  exact if_pos rfl

/-- A post that a context does not wait for joins its arrival set, no more (R72). -/
theorem takePost_of_unawaited {s : State} {p : Ctx} {e : EventId}
    (h : ∀ cue id n field, (s.ctx p).activity = .running cue (.wait (.event id n field)) → id ≠ e) :
    s.takePost p e = s.arrived p e := by
  unfold State.takePost
  split
  · next ha => exact if_neg (h _ _ _ _ ha)
  · rfl

/-- A context waits for an event, or the event ends no wait of it. -/
theorem takePost_cases (s : State) (p : Ctx) (e : EventId) :
    (∃ cue, s.takePost p e = (s.arrived p e).completeNormally p cue) ∨ s.takePost p e = s.arrived p e := by
  by_cases h : ∃ cue n field, (s.ctx p).activity = .running cue (.wait (.event e n field))
  · obtain ⟨cue, n, field, ha⟩ := h
    exact .inl ⟨cue, takePost_of_awaited ha⟩
  · exact .inr (takePost_of_unawaited fun cue id n field ha hid => h ⟨cue, n, field, hid ▸ ha⟩)

theorem phaseStep_takePost (p : Ctx) (s : State) (e : EventId) : PhaseStep p s (s.takePost p e) := by
  rcases takePost_cases s p e with ⟨cue, ht⟩ | ht
  · rw [ht]
    exact (phaseStep_arrived p s e).trans (phaseStep_completeNormally p _ cue)
  · rw [ht]
    exact phaseStep_arrived p s e

/-- A completion leaves the arrival set as the post left it. -/
theorem takePost_arrivals (s : State) (p : Ctx) (e : EventId) :
    ((s.takePost p e).ctx p).arrivals = ((s.ctx p).arrive e).arrivals := by
  rw [← arrived_ctx]
  rcases takePost_cases s p e with ⟨cue, ht⟩ | ht
  · rw [ht]
    exact (loopStep_completeNormally p _ cue).arrivals
  · rw [ht]

/-- The state with a post of a context handed over and no longer standing (log 12). -/
def State.withoutPost (s : State) (p : Ctx) (e : EventId) : State :=
  { s with posts := s.posts.erase (p, e) }

theorem exec_post {s : State} {p : Ctx} {e : EventId} (h : (p, e) ∈ s.posts) :
    exec (.post p e) s = .next ((s.withoutPost p e).takePost p e) := if_pos h

/-- What stands of posts is none of what a context's step is otherwise said to leave. -/
theorem sameBesides_of_withoutPost {s t : State} {p : Ctx} {e : EventId}
    (h : (s.withoutPost p e).sameBesides t p) : s.sameBesides { t with posts := s.posts } p := by
  obtain ⟨hconfig, hclk, howed, htrig, -, hrest⟩ := h
  exact ⟨hconfig, hclk, howed, htrig, rfl, hrest⟩

/-- A post that ends no wait changes the arrival set alone. -/
theorem arrived_leaves (s : State) (p : Ctx) (e : EventId) :
    ((s.arrived p e).ctx p).activity = (s.ctx p).activity ∧ (s.arrived p e).cells = s.cells
      ∧ (s.arrived p e).reports = s.reports ∧ (s.arrived p e).link = s.link :=
  ⟨by rw [arrived_ctx]; rfl, rfl, rfl, rfl⟩

/-- Settles O27. -/
theorem postsAndCounters : Obligations.PostsAndCounters := by
  refine ⟨fun s n value h => ⟨fun e => exec_postEvent h, postEvent_refused h,
    fun k hn => exec_setCounter h hn value, fun hn => setCounter_refused h hn value⟩, fun s p e he => ?_⟩
  have hstep := (phaseStep_takePost p (s.withoutPost p e) e).toCtxStep
  refine ⟨_, exec_post he, hstep.samePosts, sameBesides_of_withoutPost hstep.sameBesides, fun k => ?_, ?_⟩
  · rw [takePost_arrivals]
    exact arrive_getLsbD _ e k
  · split
    · next cue id n field ha =>
      split
      · next hid =>
        subst hid
        rw [takePost_of_awaited (s := s.withoutPost p id) ha]
        exact completeNormally_hasCompleted ((s.withoutPost p id).arrived p id) p cue
      · next hid =>
        have hother : ∀ c i m f, (s.ctx p).activity = .running c (.wait (.event i m f)) → i ≠ e :=
          fun c i m f hb => by
            rw [ha] at hb
            cases hb
            exact hid
        rw [takePost_of_unawaited (s := s.withoutPost p e) hother]
        exact arrived_leaves (s.withoutPost p e) p e
    · next hother =>
      rw [takePost_of_unawaited (s := s.withoutPost p e) fun c i m f hb => (hother c i m f hb).elim]
      exact arrived_leaves (s.withoutPost p e) p e

end Sys2Proof.Machine
end

section
/-! A channel's claims, level and duty agree: what settling, translating and a change of claims make of one
channel's records (R97, R100, R107, R113). -/

namespace Sys2Proof.Machine

/-! ### One channel's records -/

/-- A secondary has no claim and stands at level 0, and the Output Stage has the duty handed (R107, R113). -/
structure ChannelView.Handed (v : ChannelView) : Prop where
  empty : v.1.secondary = true → v.1.claims = .empty ∧ v.1.level = 0
  handed : v.2.buffered.duty = v.1.dutyLast

/-- The level is the one that the claims give, and the duty the one that the level and the curve give (R97,
R100). -/
structure ChannelView.Sound (duty : Fin 4 → Byte → Half) (v : ChannelView) : Prop
    extends ChannelView.Handed v where
  level : v.1.secondary = false → v.1.level = v.1.claims.level v.1.arbitration
  duty : v.1.secondary = false → v.1.dutyLast = duty v.1.curve v.1.level

theorem viewOf_modMix (s : State) (ch c : Chan) (f : MixChannel → MixChannel) :
    (s.modMix ch f).viewOf c = if c = ch then (f (s.mixCh c), s.outCh c) else s.viewOf c := by
  rw [State.viewOf, State.modMix_mixCh]
  by_cases h : c = ch
  · rw [if_pos h, if_pos h, h]
    rfl
  · rw [if_neg h, if_neg h]
    rfl

theorem levelsSound_iff (s : State) : s.levelsSound ↔ ∀ ch, (s.viewOf ch).Sound s.mix.duty := by
  refine ⟨fun ⟨hsec, hlev⟩ ch => ?_, fun h => ⟨fun ch => (h ch).empty, fun ch => ?_⟩⟩
  · obtain ⟨hduty, hsound⟩ := hlev ch
    exact ⟨⟨hsec ch, hduty⟩, fun hs => (hsound hs).1, fun hs => (hsound hs).2⟩
  · exact ⟨(h ch).handed, fun hs => ⟨(h ch).level hs, (h ch).duty hs⟩⟩

section
variable {duty : Fin 4 → Byte → Half} {v : ChannelView}

/-- A translation sets the duty right where the level is right (R100). -/
theorem ChannelView.Handed.translated (h : v.Handed)
    (hl : v.1.secondary = false → v.1.level = v.1.claims.level v.1.arbitration) :
    (v.translated duty).Sound duty := by
  unfold ChannelView.translated
  split
  · next hs =>
    exact ⟨h, hl, fun hn => (hs.resolve_left (by rw [hn]; exact Bool.false_ne_true)).symm⟩
  · exact ⟨⟨h.empty, rfl⟩, hl, fun _ => rfl⟩

/-- A channel whose level has been settled, and its duty with it (R97, R100). -/
def ChannelView.settled (duty : Fin 4 → Byte → Half) (v : ChannelView) : ChannelView :=
  if v.1.secondary then v
  else ChannelView.translated duty ({ v.1 with level := v.1.claims.level v.1.arbitration }, v.2)

/-- Settling sets level and duty right, whatever the claims have become (R97, R100). -/
theorem ChannelView.Handed.settled (h : v.Handed) : (v.settled duty).Sound duty := by
  unfold ChannelView.settled
  split
  · next hs =>
    have hn : v.1.secondary ≠ false := by rw [hs]; decide
    exact ⟨h, fun hf => absurd hf hn, fun hf => absurd hf hn⟩
  · next hs => exact ChannelView.Handed.translated ⟨fun ht => absurd ht hs, h.handed⟩ fun _ => rfl

end

/-- Settling reaches its own channel only. -/
theorem viewOf_settle (s : State) (ch c : Chan) :
    (s.settle ch).viewOf c = if c = ch then (s.viewOf c).settled s.mix.duty else s.viewOf c := by
  unfold State.settle ChannelView.settled
  by_cases hc : c = ch
  · subst hc
    rw [if_pos rfl]
    by_cases hs : (s.mixCh c).secondary = true
    · rw [if_pos hs, if_pos (show (s.viewOf c).1.secondary = true from hs)]
    · rw [if_neg hs, if_neg (show ¬ (s.viewOf c).1.secondary = true from hs), viewOf_translate, if_pos rfl,
        viewOf_modMix, if_pos rfl]
      rfl
  · rw [if_neg hc]
    split
    · rfl
    · rw [viewOf_translate, if_neg hc, viewOf_modMix, if_neg hc]

/-- Where the other channels are sound, settling makes the part sound. -/
theorem levelsSound_settle {s : State} {ch : Chan} (h : (s.viewOf ch).Handed)
    (ho : ∀ c, c ≠ ch → (s.viewOf c).Sound s.mix.duty) : (s.settle ch).levelsSound := by
  refine (levelsSound_iff _).2 fun c => ?_
  rw [duty_congr (keeps_settle s ch).curves, viewOf_settle]
  by_cases hc : c = ch
  · rw [if_pos hc, hc]
    exact h.settled
  · rw [if_neg hc]
    exact ho c hc

/-- The part stays sound where neither channels nor curves change. -/
theorem levelsSound_congr {s t : State} (hm : t.mix.channels = s.mix.channels)
    (hc : t.mix.curves = s.mix.curves) (ho : t.out.channels = s.out.channels) (h : s.levelsSound) :
    t.levelsSound := by
  refine (levelsSound_iff t).2 fun ch => ?_
  have hv : t.viewOf ch = s.viewOf ch := by
    simp only [State.viewOf, State.mixCh, State.outCh, hm, ho]
  rw [hv, duty_congr hc]
  exact (levelsSound_iff s).1 h ch

theorem PhaseStep.levelsSound {p : Ctx} {s t : State} (k : PhaseStep p s t) (h : s.levelsSound) :
    t.levelsSound :=
  levelsSound_congr k.channels k.curves (by rw [k.output]) h

/-! ### Operations on each channel in turn -/

/-- An operation that reaches its own channel only, and reads the curve RAM besides, is made once at each
channel of a list. -/
theorem viewOf_foldl_own {f : State → Chan → State} {g : Chan → ChannelView → ChannelView}
    {curves : Vector CurveSlot 3} (hc : ∀ s a, (f s a).mix.curves = s.mix.curves)
    (hv : ∀ s a c, s.mix.curves = curves →
      (f s a).viewOf c = if c = a then g c (s.viewOf c) else s.viewOf c)
    {l : List Chan} (hl : l.Nodup) {s : State} (hs : s.mix.curves = curves) (c : Chan) :
    (l.foldl f s).viewOf c = if c ∈ l then g c (s.viewOf c) else s.viewOf c := by
  induction l generalizing s with
  | nil => rw [if_neg List.not_mem_nil]; rfl
  | cons a l ih =>
    obtain ⟨ha, hl⟩ := List.nodup_cons.1 hl
    rw [List.foldl_cons, ih hl ((hc s a).trans hs), hv s a c hs]
    by_cases h : c = a
    · subst h
      rw [if_neg ha, if_pos rfl, if_pos List.mem_cons_self]
    · rw [if_neg h]
      exact if_congr (by simp [h]) rfl rfl

theorem mem_allChan (ch : Chan) : ch ∈ allChan := List.mem_finRange ch

theorem allChan_nodup : allChan.Nodup := List.nodup_finRange 16

/-! ### A change of claims (R92, R93, R96, R97) -/

/-- A channel whose claims have been changed, and its level settled where the set differs (R97). -/
def ChannelView.updated (duty : Fin 4 → Byte → Half) (f : Claimant → Claim → Option Claim)
    (v : ChannelView) : ChannelView :=
  if v.1.claims.update f = v.1.claims then v
  else ChannelView.settled duty ({ v.1 with claims := v.1.claims.update f }, v.2)

theorem curves_updateClaims (s : State) (f : Chan → Claimant → Claim → Option Claim) :
    (s.updateClaims f).mix.curves = s.mix.curves := (keeps_updateClaims s f).curves

/-- A change of all claim sets, seen at one channel. -/
theorem viewOf_updateClaims (s : State) (f : Chan → Claimant → Claim → Option Claim) (ch : Chan) :
    (s.updateClaims f).viewOf ch = (s.viewOf ch).updated s.mix.duty (f ch) := by
  let settleFrom : Chan → ChannelView → ChannelView := fun c v =>
    if v.1.claims = (s.mixCh c).claims then v else v.settled s.mix.duty
  have hown : ∀ (t : State) (a c : Chan), t.mix.curves = s.mix.curves →
      (t.settleChanged s.mix.channels a).viewOf c
        = if c = a then settleFrom c (t.viewOf c) else t.viewOf c := by
    intro t a c ht
    by_cases hc : c = a
    · subst hc
      rw [if_pos rfl]
      unfold State.settleChanged
      split
      · next h => exact (if_pos h).symm
      · next h => rw [viewOf_settle, if_pos rfl, duty_congr ht]; exact (if_neg h).symm
    · rw [if_neg hc]
      unfold State.settleChanged
      split
      · rfl
      · rw [viewOf_settle, if_neg hc]
  have hview : (s.claimsChanged f).viewOf ch
      = ({ s.mixCh ch with claims := (s.mixCh ch).claims.update (f ch) }, s.outCh ch) := by
    rw [State.viewOf, claimsChanged_mixCh]
    rfl
  have hfold := viewOf_foldl_own (f := fun t ch => t.settleChanged s.mix.channels ch) (g := settleFrom)
    (fun t a => (keeps_settleChanged t _ a).curves) hown allChan_nodup (s := s.claimsChanged f) rfl ch
  rw [updateClaims_eq, hfold, if_pos (mem_allChan ch), hview]
  unfold ChannelView.updated
  by_cases h : (s.mixCh ch).claims.update (f ch) = (s.mixCh ch).claims
  · refine (if_pos h).trans (Eq.trans ?_ (if_pos h).symm)
    rw [h]
    rfl
  · exact (if_neg h).trans (if_neg h).symm

theorem levelsSound_updateClaims {s : State} (h : s.levelsSound)
    (f : Chan → Claimant → Claim → Option Claim) : (s.updateClaims f).levelsSound := by
  refine (levelsSound_iff _).2 fun ch => ?_
  have hs := (levelsSound_iff s).1 h ch
  rw [duty_congr (curves_updateClaims s f), viewOf_updateClaims]
  unfold ChannelView.updated
  split
  · exact hs
  · refine ChannelView.Handed.settled ⟨fun hsec => ?_, hs.handed⟩
    obtain ⟨he, hl⟩ := hs.empty hsec
    refine ⟨?_, hl⟩
    show (s.viewOf ch).1.claims.update (f ch) = _
    rw [he, ClaimSet.update_empty]

/-! ### New claims (R89 to R91) -/

/-- A new claim on a channel that is no secondary. -/
theorem levelsSound_claimArrives {s : State} (h : s.levelsSound) {ch : Chan}
    (hs : (s.mixCh ch).secondary = false) (who : Claimant) (target : Byte) (fade : Nat) (priority : Fin 8) :
    (s.claimArrives ch who target fade priority).levelsSound := by
  have hv := (levelsSound_iff s).1 h
  refine levelsSound_settle ?_ fun c hc => ?_
  · rw [viewOf_modMix, if_pos rfl]
    exact ⟨fun hsec => Bool.noConfusion (hs.symm.trans hsec), (hv ch).handed⟩
  · rw [viewOf_modMix, if_neg hc]
    exact hv c

theorem levelsSound_cueClaims {s : State} (h : s.levelsSound) (p : Ctx) (cue : Cue) :
    (s.cueClaims p cue).levelsSound := by
  have hlisted : (cue.levels.foldl (fun t e => t.cueClaim p cue e) s).levelsSound := by
    refine foldl_keeps (P := State.levelsSound) (fun t e ht => ?_) _ h
    unfold State.cueClaim
    split
    · exact ht
    · next hs => exact levelsSound_claimArrives ht (by simpa using hs) _ _ _ _
  unfold State.cueClaims
  dsimp only
  split
  · rw [State.releaseOthers]
    exact levelsSound_updateClaims hlisted _
  · exact hlisted

/-! ### Configuration (R106, R107) -/

theorem levelsSound_rearbitrated {s : State} (h : s.levelsSound) (ch : Chan) (cfg : ChannelConfig) :
    (s.rearbitrated ch cfg).levelsSound := by
  have hv := (levelsSound_iff s).1 h
  refine levelsSound_settle ?_ fun c hc => ?_
  · rw [viewOf_modMix, if_pos rfl]
    exact ⟨(hv ch).empty, (hv ch).handed⟩
  · rw [viewOf_modMix, if_neg hc]
    exact hv c

/-- A secondary hands no duty, and its level is 0 (R107). -/
theorem levelsSound_becomeSecondary {s : State} (h : s.levelsSound) (ch : Chan) :
    (s.modMix ch MixChannel.becomeSecondary).levelsSound := by
  have hv := (levelsSound_iff s).1 h
  refine (levelsSound_iff _).2 fun c => ?_
  rw [viewOf_modMix]
  by_cases hc : c = ch
  · rw [if_pos hc, MixChannel.becomeSecondary]
    split
    · exact hv c
    · exact ⟨⟨fun _ => ⟨rfl, rfl⟩, (hv c).handed⟩, (nomatch ·), (nomatch ·)⟩
  · rw [if_neg hc]
    exact hv c

/-- An empty claim set gives level 0 (R97, R98). -/
theorem ClaimSet.level_empty (mode : Arbitration) : ClaimSet.empty.level mode = 0 := by
  cases mode <;> rfl

theorem levelsSound_ceaseSecondary {s : State} (h : s.levelsSound) (ch : Chan) :
    (s.ceaseSecondary ch).levelsSound := by
  have hv := (levelsSound_iff s).1 h
  refine (levelsSound_iff _).2 fun c => ?_
  rw [duty_congr (ceaseSecondary_curves s ch)]
  by_cases hc : c = ch
  · subst hc
    cases hs : (s.mixCh c).secondary with
    | false =>
      rw [ceaseSecondary_of_not hs]
      exact hv c
    | true =>
      have hclaims : (s.mixCh c).claims = .empty := ((hv c).empty hs).1
      rw [viewOf_ceaseSecondary hs]
      refine ⟨⟨(nomatch ·), rfl⟩, fun _ => ?_, fun _ => rfl⟩
      show (0 : Byte) = (s.mixCh c).claims.level _
      rw [hclaims, ClaimSet.level_empty]
  · rw [viewOf_ceaseSecondary_of_ne s hc]
    exact hv c

theorem levelsSound_mixConfig {s : State} (h : s.levelsSound) (ch : Chan) (cfg : ChannelConfig) :
    (s.mixConfig ch cfg).levelsSound := by
  have hr := levelsSound_rearbitrated h ch cfg
  rcases mixConfig_cases s ch cfg with he | ⟨-, he | he⟩
  · rw [he]
    exact hr
  · rw [he]
    exact levelsSound_becomeSecondary hr _
  · rw [he]
    exact levelsSound_ceaseSecondary hr _

/-- A change of the output stage that leaves the buffered duties. -/
theorem levelsSound_out {s t : State} (hm : t.mix = s.mix)
    (ho : ∀ ch, (t.outCh ch).buffered.duty = (s.outCh ch).buffered.duty) (h : s.levelsSound) :
    t.levelsSound := by
  simp only [State.levelsSound, State.secondariesSound, State.mixCh, hm, ho] at h ⊢
  exact h

/-! ### Curves (R101, R173) -/

theorem levelsSound_translateAll {s : State} (h : s.levelsSound) : s.translateAll.levelsSound := by
  have hv := (levelsSound_iff s).1 h
  refine (levelsSound_iff _).2 fun c => ?_
  have hcurves : s.translateAll.mix.curves = s.mix.curves := by
    rw [State.translateAll]
    exact foldl_keeps (P := fun t => t.mix.curves = s.mix.curves)
      (fun t ch ht => (curves_translate t ch).trans ht) _ rfl
  rw [duty_congr hcurves, State.translateAll, viewOf_foldl_translate allChan_nodup,
    if_pos (mem_allChan c)]
  exact (hv c).toHanded.translated (hv c).level

/-- Curve 0 is linear, whatever the slots hold (R100). -/
theorem levelsSound_fillCurves {s : State} (h : s.levelsSound) (slots : Vector CurveSlot 3) :
    (s.fillCurves slots).levelsSound := by
  have hv := (levelsSound_iff s).1 h
  refine (levelsSound_iff _).2 fun c => ?_
  rw [viewOf_fillCurves]
  by_cases hc : (s.mixCh c).curve = 0
  · rw [if_neg (not_not.2 hc)]
    refine ⟨(hv c).toHanded, (hv c).level, fun hs => ?_⟩
    have hd := (hv c).duty hs
    rw [show (s.viewOf c).1.curve = 0 from hc] at hd ⊢
    exact hd
  · rw [if_pos hc]
    exact (hv c).toHanded.translated (hv c).level

end Sys2Proof.Machine
end

section
/-! What the operations of the contexts, of TRIG and of the mixer keep of the channels: secondaries without
claims, pairs with the active modes, levels and duties as the claims and curves give them (O59). -/

namespace Sys2Proof.Machine

/-! ### What is kept -/

/-- The three that every step keeps of the channels. -/
structure ChannelsKeep (s t : State) : Prop where
  secondaries : s.secondariesSound → t.secondariesSound
  pairs : s.pairsSound → t.pairsSound
  levels : s.levelsSound → t.levelsSound

theorem ChannelsKeep.refl (s : State) : ChannelsKeep s s := ⟨id, id, id⟩

theorem ChannelsKeep.trans {s t u : State} (h : ChannelsKeep s t) (k : ChannelsKeep t u) :
    ChannelsKeep s u :=
  ⟨k.secondaries ∘ h.secondaries, k.pairs ∘ h.pairs, k.levels ∘ h.levels⟩

theorem ChannelsKeep.foldl {α : Type} {f : State → α → State} (h : ∀ s a, ChannelsKeep s (f s a))
    (l : List α) (s : State) : ChannelsKeep s (l.foldl f s) :=
  foldl_keeps (P := ChannelsKeep s) (fun t a ht => ht.trans (h t a)) l (.refl s)

/-- Pairs stay with the active modes where neither these nor the pair marks change, and no odd channel is
made PAIR (R114, R115). -/
theorem pairsSound_congr {s t : State} (ha : ∀ ch, (t.outCh ch).active = (s.outCh ch).active)
    (hl : ∀ ch, (t.outCh ch).loaded = (s.outCh ch).loaded)
    (hp : ∀ ch, (t.outCh ch).paired = (s.outCh ch).paired)
    (hm : ∀ ch, isOdd ch = true → (s.outCh ch).buffered.mode ≠ .pair → (t.outCh ch).buffered.mode ≠ .pair)
    (h : s.pairsSound) : t.pairsSound := by
  obtain ⟨hodd, hpair⟩ := h
  refine ⟨fun ch ho => ?_, fun ch => by rw [hp, ha]; exact hpair ch⟩
  obtain ⟨hbuffered, hactive, hstart⟩ := hodd ch ho
  refine ⟨hm ch ho hbuffered, by rw [ha]; exact hactive, ?_⟩
  rw [OutChannel.startConfig, hl]
  exact hstart

theorem pairsSound_of_sameButDuty {s t : State} (ho : ∀ ch, (s.outCh ch).sameButDuty (t.outCh ch))
    (h : s.pairsSound) : t.pairsSound :=
  pairsSound_congr (fun ch => by rw [ho ch]) (fun ch => by rw [ho ch]) (fun ch => by rw [ho ch])
    (fun ch _ hm => by rw [ho ch]; exact hm) h

theorem Keeps.channelsKeep {s t : State} (h : Keeps s t) (hl : s.levelsSound → t.levelsSound) :
    ChannelsKeep s t :=
  ⟨h.secondaries, pairsSound_of_sameButDuty h.sameButDuty, hl⟩

/-- A change that reaches neither the channels nor the curve RAM. -/
theorem ChannelsKeep.of_same {s t : State} (hm : t.mix.channels = s.mix.channels)
    (hc : t.mix.curves = s.mix.curves) (ho : t.out = s.out) : ChannelsKeep s t := by
  refine ⟨fun h => ?_, pairsSound_of_sameButDuty fun ch => ?_, levelsSound_congr hm hc (by rw [ho])⟩
  · simp only [State.secondariesSound, State.mixCh, hm] at h ⊢
    exact h
  · rw [State.outCh, State.outCh, ho]

theorem PhaseStep.channelsKeep {p : Ctx} {s t : State} (h : PhaseStep p s t) : ChannelsKeep s t :=
  .of_same h.channels h.curves h.output

/-! ### Messages, the port and the orders -/

theorem channelsKeep_reply (s : State) (x : Reply) : ChannelsKeep s (s.reply x) := .of_same rfl rfl rfl

theorem channelsKeep_notify (s : State) (n : Notice) : ChannelsKeep s (s.notify n) := by
  rw [notify_eq_link]
  exact .of_same rfl rfl rfl

theorem channelsKeep_arbitrate (s : State) : ChannelsKeep s s.arbitrate := by
  rw [arbitrate_eq_modStore]
  exact .of_same rfl rfl rfl

theorem channelsKeep_anyOrder {α : Type} (s : State) (l : List α) : ChannelsKeep s (s.anyOrder l).2 := by
  unfold State.anyOrder
  split <;> exact .of_same rfl rfl rfl

theorem channelsKeep_modStore (s : State) (f : Store → Store) : ChannelsKeep s (s.modStore f) :=
  .of_same rfl rfl rfl

theorem channelsKeep_endHold (s : State) (p : Ctx) : ChannelsKeep s (s.endHold p) := .of_same rfl rfl rfl

theorem channelsKeep_enterIdle (s : State) (p : Ctx) (way : Way) : ChannelsKeep s (s.enterIdle p way) :=
  .of_same (by rw [enterIdle_mix]) (by rw [enterIdle_mix]) (enterIdle_out s p way)

/-! ### The mixer -/

theorem channelsKeep_updateClaims (s : State) (f : Chan → Claimant → Claim → Option Claim) :
    ChannelsKeep s (s.updateClaims f) :=
  (keeps_updateClaims s f).toKeeps.channelsKeep fun h => levelsSound_updateClaims h f

theorem channelsKeep_removeClaims (s : State) (p : Ctx) : ChannelsKeep s (s.removeClaims p) :=
  (channelsKeep_updateClaims s _).trans (channelsKeep_endHold _ p)

theorem channelsKeep_cueClaims (s : State) (p : Ctx) (cue : Cue) : ChannelsKeep s (s.cueClaims p cue) :=
  (keeps_cueClaims s p cue).toKeeps.channelsKeep fun h => levelsSound_cueClaims h p cue

theorem channelsKeep_translateAll (s : State) : ChannelsKeep s s.translateAll := by
  have hk : Keeps s s.translateAll := (PlayKeeps.foldl keeps_translate _ _).toKeeps
  exact hk.channelsKeep levelsSound_translateAll

/-- The curve RAM changes, and the duties of its channels follow (R101). -/
theorem channelsKeep_fillCurves (s : State) (slots : Vector CurveSlot 3) :
    ChannelsKeep s (s.fillCurves slots) := by
  have hk : Keeps { s with mix := { s.mix with curves := slots } } (s.fillCurves slots) :=
    (PlayKeeps.foldl keeps_translate _ _).toKeeps
  exact ⟨hk.secondaries, pairsSound_of_sameButDuty hk.sameButDuty, fun h => levelsSound_fillCurves h slots⟩

/-! ### CONFIG_CHANNEL (R106, R107, R114) -/

theorem secondariesSound_modMix {s : State} (h : s.secondariesSound) {ch : Chan} {f : MixChannel → MixChannel}
    (hf : (f (s.mixCh ch)).secondary = true →
      (f (s.mixCh ch)).claims = .empty ∧ (f (s.mixCh ch)).level = 0) : (s.modMix ch f).secondariesSound := by
  intro c
  rw [State.modMix_mixCh]
  split
  · exact hf
  · exact h c

theorem secondariesSound_mixConfig {s : State} (h : s.secondariesSound) (ch : Chan) (cfg : ChannelConfig) :
    (s.mixConfig ch cfg).secondariesSound := by
  have hr : (s.rearbitrated ch cfg).secondariesSound :=
    (keeps_settle _ ch).secondaries (secondariesSound_modMix h (h ch))
  rcases mixConfig_cases s ch cfg with he | ⟨-, he | he⟩
  · exact he ▸ hr
  · rw [he]
    refine secondariesSound_modMix hr ?_
    unfold MixChannel.becomeSecondary
    split
    · exact hr _
    · exact fun _ => ⟨rfl, rfl⟩
  · rw [he]
    unfold State.ceaseSecondary
    dsimp only
    split
    · exact (keeps_handDuty _ _ _).secondaries (secondariesSound_modMix hr (nomatch ·))
    · exact hr

/-- An entry that is accepted for an odd channel is not PAIR (R114, R197). -/
theorem config_mode_ne_pair {e : ChannelEntry} {ch : Chan} {cfg : ChannelConfig}
    (h : ChannelEntry.config e ch = some cfg) (ho : isOdd ch = true) : cfg.mode ≠ .pair := by
  simp only [ChannelEntry.config, Option.bind_eq_bind, Option.bind_eq_some_iff] at h
  obtain ⟨mode, -, _, -, _, -, _, -, _, -, _, -, hcfg⟩ := h
  split at hcfg
  · cases hcfg
  · next hm =>
    cases hcfg
    exact fun hp => hm ⟨hp, ho⟩

theorem pairsSound_configured {s : State} (h : s.pairsSound) {ch : Chan} {cfg : ChannelConfig}
    (hm : isOdd ch = true → cfg.mode ≠ .pair) : (s.configured ch cfg).pairsSound := by
  have hd := mixConfig_sameButDuty s ch cfg
  have ho : ∀ c, (s.configured ch cfg).outCh c
      = if c = ch then ((s.mixConfig ch cfg).outConfig ch cfg).outCh ch else (s.mixConfig ch cfg).outCh c :=
    fun c => by
      by_cases hc : c = ch
      · rw [if_pos hc, hc, State.configured]
      · rw [if_neg hc, State.configured, outConfig_outCh_of_ne _ cfg hc]
  refine pairsSound_congr (fun c => ?_) (fun c => ?_) (fun c => ?_) (fun c hodd hne => ?_) h
  all_goals
    rw [ho c]
    by_cases hc : c = ch
  · rw [if_pos hc, outConfig_outCh, hd ch, hc]
  · rw [if_neg hc, hd c]
  · rw [if_pos hc, outConfig_outCh, hd ch, hc]
  · rw [if_neg hc, hd c]
  · rw [if_pos hc, outConfig_outCh, hd ch, hc]
  · rw [if_neg hc, hd c]
  · rw [if_pos hc, outConfig_outCh]
    exact hm (hc ▸ hodd)
  · rw [if_neg hc, hd c]
    exact hne

/-- The Output Stage's part of a configuration leaves the duties (R114). -/
theorem outConfig_duty (s : State) (ch c : Chan) (cfg : ChannelConfig) :
    ((s.outConfig ch cfg).outCh c).buffered.duty = (s.outCh c).buffered.duty := by
  by_cases hc : c = ch
  · rw [hc, outConfig_outCh]
  · rw [outConfig_outCh_of_ne s cfg hc]

theorem channelsKeep_takeClaimsGone (s : State) (p : Ctx) : ChannelsKeep s (s.takeClaimsGone p) := by
  unfold State.takeClaimsGone
  split
  · exact channelsKeep_enterIdle s p _
  · exact .refl s

theorem channelsKeep_takeAllGone (s : State) (ps : List Ctx) : ChannelsKeep s (s.takeAllGone ps) :=
  (channelsKeep_anyOrder s ps).trans (.foldl channelsKeep_takeClaimsGone _ _)

theorem channelsKeep_configureChannel (s : State) {ch : Chan} {cfg : ChannelConfig}
    (hm : isOdd ch = true → cfg.mode ≠ .pair) : ChannelsKeep s (s.configureChannel ch cfg) := by
  have h : ChannelsKeep s (s.configured ch cfg) :=
    ⟨fun h => secondariesSound_mixConfig h ch cfg, fun h => pairsSound_configured h hm,
      fun h => levelsSound_out (s := s.mixConfig ch cfg) rfl (outConfig_duty _ ch · cfg)
        (levelsSound_mixConfig h ch cfg)⟩
  exact h.trans (channelsKeep_takeAllGone _ _)

/-! ### Contexts -/

theorem channelsKeep_startCue (s : State) (p : Ctx) (cue : Cue) (pp : Bool) :
    ChannelsKeep s (s.startCue p cue pp) := by
  have hempty : ChannelsKeep s (s.cueEmptied p cue) := .of_same rfl rfl rfl
  have htaken : ChannelsKeep s (s.cueTaken p cue) := hempty.trans (channelsKeep_cueClaims _ p cue)
  have hopen : ChannelsKeep (s.cueTaken p cue) (s.cueOpened p cue pp) := .of_same rfl rfl rfl
  exact (htaken.trans hopen).trans (phaseStep_startCue p s cue pp).channelsKeep

/-- A completed read, whatever its context makes of it (R33, R35, R36). -/
theorem channelsKeep_takeWords (s : State) (p : Ctx) (kind : ReadKind) (w steps : Nat) (pp : Bool) :
    ChannelsKeep s (s.takeWords p kind w steps pp).arbitrate := by
  have hr : ∀ a, ChannelsKeep s (s.resolved p a).arbitrate := fun a =>
    ((phaseStep_resolved p s a).trans (phaseStep_arbitrate p _)).channelsKeep
  cases kind with
  | linkStep =>
    rw [State.takeWords, takeLinkStep_arbitrate]
    exact hr _
  | probe =>
    rw [State.takeWords, takeProbe_arbitrate]
    exact hr _
  | record lead =>
    refine ChannelsKeep.trans ?_ (channelsKeep_arbitrate _)
    unfold State.takeWords State.takeRecord
    dsimp only
    split
    · exact (phaseStep_resolved p s (.faulted _ _)).channelsKeep
    · exact channelsKeep_startCue s p _ pp

theorem channelsKeep_completeFetch (s : State) (p : Ctx) (kind : ReadKind) (w : Nat) (live : Bool) :
    ChannelsKeep s (s.completeFetch p kind w live) := by
  have hf : ChannelsKeep s s.freed := .of_same rfl rfl rfl
  have ha : ChannelsKeep s s.freed.arbitrate := hf.trans (channelsKeep_arbitrate _)
  cases live with
  | false => exact ha
  | true =>
    cases hp : (s.ctx p).activity with
    | fetch res pp =>
      rw [completeFetch_live hp]
      exact hf.trans (channelsKeep_takeWords s.freed p kind w _ pp)
    | _ =>
      unfold State.completeFetch
      rw [hp]
      exact ha

theorem channelsKeep_takePost (s : State) (p : Ctx) (e : EventId) : ChannelsKeep s (s.takePost p e) := by
  have h : ChannelsKeep s (s.modCtx p fun c => c.arrive e) := .of_same rfl rfl rfl
  unfold State.takePost
  dsimp only
  split
  · split
    · exact h.trans (phaseStep_completeNormally p _ _).channelsKeep
    · exact h
  · exact h

theorem channelsKeep_takeStop (s : State) (p : Ctx) : ChannelsKeep s (s.takeStop p) := by
  have hr := channelsKeep_removeClaims s p
  by_cases hi : (s.ctx p).activity = .idle
  · rw [takeStop_of_idle hi]
    exact hr
  · obtain ⟨port, ht, -⟩ := takeStop_of_active hi
    rw [ht]
    exact (hr.trans (channelsKeep_modStore _ _)).trans (channelsKeep_enterIdle _ p _)

theorem channelsKeep_releaseFrom (s : State) (p : Ctx) (fade : Nat) :
    ChannelsKeep s (s.releaseFrom p fade) := by
  have hr : ChannelsKeep s (s.releaseAll p fade) := channelsKeep_updateClaims s _
  unfold State.releaseFrom
  dsimp only
  split
  · exact hr
  · exact hr.trans (channelsKeep_takeClaimsGone _ p)

theorem channelsKeep_takeRelease (s : State) (p : Ctx) (fade : Nat) :
    ChannelsKeep s (s.takeRelease p fade) := by
  have henter : ∀ u : State, ChannelsKeep s u → ChannelsKeep s ((u.enter p .releasing).releaseFrom p fade) :=
    fun u hu => (hu.trans (phaseStep_enter p u _).channelsKeep).trans (channelsKeep_releaseFrom _ p fade)
  have hend := channelsKeep_endHold s p
  unfold State.takeRelease
  split
  · split
    · exact henter s (.refl s)
    · exact .refl s
  · exact .refl s
  · exact henter s (.refl s)
  · exact henter _ hend
  · exact channelsKeep_releaseFrom s p fade
  · exact henter _ hend

theorem channelsKeep_takeResume (s : State) (p : Ctx) (cue : Cue) (saved : CuePhase) :
    ChannelsKeep s (s.takeResume p cue saved) := by
  have hend := channelsKeep_endHold s p
  have henter : ∀ at_, PhaseStep p (s.endHold p) ((s.endHold p).enter p (.running cue at_)) :=
    fun at_ => phaseStep_enter p _ _
  refine hend.trans (PhaseStep.channelsKeep (p := p) ?_)
  unfold State.takeResume
  dsimp only
  split
  · exact phaseStep_enterFade p _ cue _
  · split
    · exact (henter _).trans (phaseStep_completeNormally p _ cue)
    · exact henter _
  · split
    · exact (henter _).trans (phaseStep_completeNormally p _ cue)
    · exact henter _
  · exact henter _

theorem channelsKeep_deliver (s : State) (p : Ctx) (d : Delivery) : ChannelsKeep s (s.deliver p d) := by
  cases d with
  | go pointer => exact (phaseStep_takeGo p s pointer).channelsKeep
  | release fade => exact channelsKeep_takeRelease s p fade
  | stop => exact channelsKeep_takeStop s p

/-! ### TRIG -/

theorem channelsKeep_offer (s : State) (r : DeliveryRecord) (p : Ctx) :
    ChannelsKeep s (s.offer r p).2.2 := by
  unfold State.offer
  split
  · have hd := channelsKeep_deliver s p r.delivery
    dsimp only
    split
    · refine hd.trans ?_
      unfold State.joinHeldBy
      split
      · split <;> exact .of_same rfl rfl rfl
      · exact .of_same rfl rfl rfl
    · exact hd.trans (.of_same rfl rfl rfl)
  · exact .refl s
  · exact channelsKeep_notify s _

/-- What TRIG does keeps the channels: only its deliveries reach them. -/
theorem offerKeeps_channels (s : State) : OfferKeeps (ChannelsKeep s) where
  offer h r p := h.trans (channelsKeep_offer _ r p)
  notify h n := h.trans (channelsKeep_notify _ n)
  post h _ := h.trans (.of_same rfl rfl rfl)
  free h _ := h.trans (.of_same rfl rfl rfl)
  reports h _ := h.trans (.of_same rfl rfl rfl)
  trig h _ := h.trans (.of_same rfl rfl rfl)

theorem channelsKeep_examine (s : State) : ChannelsKeep s s.examine :=
  (offerKeeps_channels s).examine (.refl s)

theorem channelsKeep_testLevel (s : State) (l : Line) : ChannelsKeep s (s.testLevel l) :=
  (offerKeeps_channels s).testLevel (.refl s) l

/-! ### The Output Stage (R110 to R122) -/

/-- A fault source acts on the shutdown states alone (R119 to R121). -/
theorem channelsKeep_setSource (s : State) (k : Fin 2) (f : FaultSource) :
    ChannelsKeep s (s.setSource k f) := by
  have hout : ∀ {t : State}, t.mix = s.mix → (∀ ch, ∃ b, t.outCh ch = { s.outCh ch with shutdown := b }) →
      ChannelsKeep s t := by
    intro t hm ho
    have hch : ∀ ch, (t.outCh ch).buffered = (s.outCh ch).buffered
        ∧ (t.outCh ch).active = (s.outCh ch).active ∧ (t.outCh ch).loaded = (s.outCh ch).loaded
        ∧ (t.outCh ch).paired = (s.outCh ch).paired := fun ch => by
      obtain ⟨b, hb⟩ := ho ch
      rw [hb]
      exact ⟨rfl, rfl, rfl, rfl⟩
    refine ⟨fun h => ?_, ?_, levelsSound_out hm fun ch => by rw [(hch ch).1]⟩
    · simp only [State.secondariesSound, State.mixCh, hm] at h ⊢
      exact h
    · exact pairsSound_congr (fun ch => (hch ch).2.1) (fun ch => (hch ch).2.2.1)
        (fun ch => (hch ch).2.2.2) fun ch _ hne => by rw [(hch ch).1]; exact hne
  have h1 : ChannelsKeep s { s with out := { s.out with sources := s.out.sources.set k f } } :=
    hout rfl fun ch => ⟨_, rfl⟩
  unfold State.setSource
  dsimp only
  split
  · exact h1
  · refine ChannelsKeep.trans ?_ (channelsKeep_notify _ _)
    split
    · refine hout rfl fun ch => ?_
      rw [State.mapOut_outCh]
      split
      · exact ⟨true, rfl⟩
      · exact ⟨_, rfl⟩
    · exact h1

theorem evenPartner_of_even {ch : Chan} (h : isOdd ch = false) : evenPartner ch = ch := by
  revert ch
  decide

theorem evenPartner_oddPartner {ch : Chan} (h : isOdd ch = false) : evenPartner (oddPartner ch) = ch := by
  revert ch
  decide

theorem isOdd_oddPartner (ch : Chan) : isOdd (oddPartner ch) = true := by
  revert ch
  decide

theorem isOdd_evenPartner (ch : Chan) : isOdd (evenPartner ch) = false := by
  revert ch
  decide

/-- An odd channel of an even channel is its odd partner. -/
theorem eq_oddPartner {ch c : Chan} (ho : isOdd c = true) (h : evenPartner c = ch) : c = oddPartner ch := by
  revert ch c
  decide

/-- Every channel's output record after a period start (R110, R115, R117, R122). -/
theorem startPeriod_outCh (s : State) (ch c : Chan) : (s.startPeriod ch).outCh c =
    if c = ch then (s.outCh ch).startPeriod s.out
    else if isOdd ch = false ∧ c = oddPartner ch then
      (s.outCh c).followPair (s.outCh ch).buffered.mode s.out
    else s.outCh c := by
  unfold State.startPeriod
  cases ho : isOdd ch with
  | true =>
    rw [if_pos rfl, State.modOut_outCh]
    exact if_congr Iff.rfl rfl (if_neg fun h => nomatch h.1).symm
  | false =>
    have hne : oddPartner ch ≠ ch := oddPartner_ne ho
    rw [if_neg Bool.false_ne_true, State.modOut_outCh, State.modOut_outCh, State.modOut_outCh, if_neg hne]
    by_cases hc : c = ch
    · rw [if_pos hc, if_neg (hc ▸ hne.symm), if_pos hc]
    · rw [if_neg hc, if_neg hc]
      by_cases hp : c = oddPartner ch
      · rw [if_pos hp, if_pos ⟨rfl, hp⟩, hp]
      · rw [if_neg hp, if_neg fun h => hp h.2]

/-- What a channel's output record has of the pair after its partner's or its own period start, beside its
own buffered values. -/
theorem followPair_spec (o : OutChannel) (mode : ChannelMode) (out : Output) :
    (o.followPair mode out).buffered = o.buffered ∧ (o.followPair mode out).loaded = o.loaded
      ∧ ((o.followPair mode out).active = o.active ∨ (o.followPair mode out).active = o.buffered)
      ∧ (o.followPair mode out).paired = (mode == .pair) := by
  unfold OutChannel.followPair OutChannel.startPeriod
  by_cases hm : mode = .pair
  · rw [if_pos hm, hm]
    exact ⟨rfl, rfl, .inl rfl, rfl⟩
  · rw [if_neg hm, beq_eq_false_iff_ne.2 hm]
    cases hp : o.paired with
    | true => exact ⟨rfl, rfl, .inr rfl, rfl⟩
    | false => exact ⟨rfl, rfl, .inl rfl, hp⟩

/-- A period start leaves the buffered values and the loaded ones, and makes only buffered values active
(R110, R115, R117). -/
theorem startPeriod_kept (s : State) (ch c : Chan) :
    ((s.startPeriod ch).outCh c).buffered = (s.outCh c).buffered
      ∧ ((s.startPeriod ch).outCh c).loaded = (s.outCh c).loaded
      ∧ (((s.startPeriod ch).outCh c).active = (s.outCh c).active
        ∨ ((s.startPeriod ch).outCh c).active = (s.outCh c).buffered) := by
  rw [startPeriod_outCh]
  split
  · next hc => rw [hc]; exact ⟨rfl, rfl, .inr rfl⟩
  · split
    · obtain ⟨hb, hl, ha, -⟩ := followPair_spec (s.outCh c) (s.outCh ch).buffered.mode s.out
      exact ⟨hb, hl, ha⟩
    · exact ⟨rfl, rfl, .inl rfl⟩

/-- A pair is marked exactly where the even channel's active mode is PAIR, after the period start that
forms, keeps or dissolves it (R115, R117). -/
theorem pairsSound_startPeriod {s : State} (h : s.pairsSound) {ch : Chan}
    (hn : (s.outCh ch).paired = false) : (s.startPeriod ch).pairsSound := by
  obtain ⟨hodd, hpair⟩ := h
  refine ⟨fun c ho => ?_, fun c => ?_⟩
  · obtain ⟨hb, hl, ha⟩ := startPeriod_kept s ch c
    obtain ⟨hbuffered, hactive, hstart⟩ := hodd c ho
    refine ⟨hb ▸ hbuffered, ?_, ?_⟩
    · rcases ha with ha | ha <;> rw [ha] <;> assumption
    · rw [OutChannel.startConfig, hl]
      exact hstart
  · cases ho : isOdd c with
    | false =>
      have hc := hpair c
      rw [ho, Bool.false_and] at hc
      rw [Bool.false_and, startPeriod_outCh]
      split
      · exact hn
      · split
        · next hp => exact absurd (hp.2 ▸ isOdd_oddPartner ch) (by rw [ho]; decide)
        · exact hc
    | true =>
      have hc := hpair c
      rw [ho, Bool.true_and] at hc
      rw [Bool.true_and, startPeriod_outCh s ch c, startPeriod_outCh s ch (evenPartner c)]
      by_cases he : evenPartner c = ch
      · have hcp := eq_oddPartner ho he
        have hch : isOdd ch = false := he ▸ isOdd_evenPartner c
        rw [if_neg (hcp ▸ oddPartner_ne hch), if_pos ⟨hch, hcp⟩, if_pos he]
        exact (followPair_spec _ _ _).2.2.2
      · have hne : ¬ (isOdd ch = false ∧ c = oddPartner ch) := fun hp =>
          he (hp.2 ▸ evenPartner_oddPartner hp.1)
        have hne' : ¬ (isOdd ch = false ∧ evenPartner c = oddPartner ch) := fun hp =>
          absurd ((isOdd_evenPartner c).symm.trans (hp.2 ▸ isOdd_oddPartner ch)) (by decide)
        rw [if_neg hne, if_neg he, if_neg hne']
        split
        · next hcc => rw [← hcc]; exact hc
        · exact hc

theorem channelsKeep_startPeriod (s : State) {ch : Chan} (hn : (s.outCh ch).paired = false) :
    ChannelsKeep s (s.startPeriod ch) := by
  have hm : (s.startPeriod ch).mix = s.mix := by
    unfold State.startPeriod
    dsimp only
    split <;> rfl
  refine ⟨fun h => ?_, fun h => pairsSound_startPeriod h hn,
    levelsSound_out hm fun c => by rw [(startPeriod_kept s ch c).1]⟩
  simp only [State.secondariesSound, State.mixCh, hm] at h ⊢
  exact h

end Sys2Proof.Machine
end

section
/-! Every step keeps secondaries, pairs, levels and duties sound (O59): the requests, the other commands, and
the steps of start-up. -/

namespace Sys2Proof.Machine

/-! ### Requests -/

theorem channelsKeep_refuse (s : State) (r : Request) (why : Reason) : ChannelsKeep s (s.refuse r why) :=
  channelsKeep_reply s _

/-- What follows an ACK. -/
theorem ChannelsKeep.of_ack {s t : State} {r : Request} (h : ChannelsKeep (s.ack r) t) :
    ChannelsKeep s t :=
  (channelsKeep_reply s _).trans h

theorem channelsKeep_startLinkOp (s : State) (op : LinkOp) : ChannelsKeep s (s.startLinkOp op) :=
  (channelsKeep_modStore s _).trans (channelsKeep_arbitrate _)

section
variable (s : State)

theorem channelsKeep_takeGoRequest (r : Request) (c : Byte) (ptr : Option Half) :
    ChannelsKeep s (s.takeGoRequest r c ptr) := by
  unfold State.takeGoRequest
  split
  · exact channelsKeep_refuse s r _
  · split
    · exact .of_ack (phaseStep_takeGo _ _ ptr).channelsKeep
    all_goals exact channelsKeep_refuse s r _

theorem channelsKeep_takePauseRequest (c : Byte) : ChannelsKeep s (s.takePauseRequest c) := by
  unfold State.takePauseRequest
  dsimp only
  split
  · exact channelsKeep_refuse s _ _
  · split
    · exact .of_ack ((phaseStep_enter _ _ _).trans (phaseStep_holdClaims _ _)).channelsKeep
    · exact .of_same rfl rfl rfl
    · exact channelsKeep_refuse s _ _

theorem channelsKeep_takeResumeRequest (c : Byte) : ChannelsKeep s (s.takeResumeRequest c) := by
  unfold State.takeResumeRequest
  dsimp only
  split
  · exact channelsKeep_refuse s _ _
  · split
    · exact .of_ack (channelsKeep_takeResume _ _ _ _)
    · exact channelsKeep_refuse s _ _

theorem channelsKeep_takeStopRequest (c : Byte) : ChannelsKeep s (s.takeStopRequest c) := by
  unfold State.takeStopRequest
  dsimp only
  split
  · exact channelsKeep_refuse s _ _
  · exact .of_ack (channelsKeep_takeStop _ _)

theorem channelsKeep_takeReleaseRequest (c : Byte) (f : Half) :
    ChannelsKeep s (s.takeReleaseRequest c f) := by
  have hr : ∀ (r : Request) (p : Ctx), ChannelsKeep s ((s.ack r).takeRelease p f.toNat) := fun r p =>
    .of_ack (channelsKeep_takeRelease _ p _)
  unfold State.takeReleaseRequest
  dsimp only
  split
  · exact channelsKeep_refuse s _ _
  · split
    · exact channelsKeep_refuse s _ _
    · split
      · exact channelsKeep_refuse s _ _
      · exact hr _ _

theorem channelsKeep_takeConfigContext (c : Byte) (h : Half) (r : Byte) :
    ChannelsKeep s (s.takeConfigContext c h r) := by
  unfold State.takeConfigContext
  dsimp only
  split
  · exact channelsKeep_refuse s _ _
  · refine ChannelsKeep.trans ?_ (channelsKeep_examine _)
    exact .of_same rfl rfl rfl

theorem channelsKeep_takeSetLevel (c l : Byte) (f : Half) (p : Byte) :
    ChannelsKeep s (s.takeSetLevel c l f p) := by
  unfold State.takeSetLevel
  dsimp only
  split
  · next ch prio _ _ =>
    split
    · exact channelsKeep_refuse s _ _
    · split
      · exact channelsKeep_refuse s _ _
      · next hs =>
        have hs : (s.mixCh ch).secondary = false := by simpa using hs
        exact .of_ack (r := .setLevel c l f p)
          ((keeps_claimArrives (s.ack (.setLevel c l f p)) ch .link l f.toNat prio hs).toKeeps.channelsKeep
            fun h => levelsSound_claimArrives h hs _ _ _ _)
  · exact channelsKeep_refuse s _ _

theorem channelsKeep_takeReleaseLevel (c : Byte) (f : Half) :
    ChannelsKeep s (s.takeReleaseLevel c f) := by
  unfold State.takeReleaseLevel
  dsimp only
  split
  · exact channelsKeep_refuse s _ _
  · split
    · exact channelsKeep_refuse s _ _
    · split
      · exact channelsKeep_refuse s _ _
      · exact .of_ack (channelsKeep_updateClaims _ _)

theorem channelsKeep_takeConfigChannel (c : Byte) (e : ChannelEntry) :
    ChannelsKeep s (s.takeConfigChannel c e) := by
  unfold State.takeConfigChannel
  dsimp only
  split
  · exact channelsKeep_refuse s _ _
  · split
    · exact channelsKeep_refuse s _ _
    · next he => exact .of_ack (channelsKeep_configureChannel _ (config_mode_ne_pair he))

theorem channelsKeep_takeConfigFault (k m : Byte) : ChannelsKeep s (s.takeConfigFault k m) := by
  unfold State.takeConfigFault
  dsimp only
  split
  · exact .of_ack (channelsKeep_setSource _ _ _)
  · exact channelsKeep_refuse s _ _

theorem channelsKeep_takeClearFault (k : Byte) : ChannelsKeep s (s.takeClearFault k) := by
  unfold State.takeClearFault
  dsimp only
  split
  · exact channelsKeep_refuse s _ _
  · split
    · exact channelsKeep_refuse s _ _
    · exact .of_ack (channelsKeep_setSource _ _ _)

theorem channelsKeep_takeConfigGroup (g : Byte) (e : GroupEntry) :
    ChannelsKeep s (s.takeConfigGroup g e) := by
  unfold State.takeConfigGroup
  dsimp only
  split
  · next k v _ _ =>
    refine .of_ack (r := .configGroup g e) (ChannelsKeep.trans ?_ (channelsKeep_examine _))
    have hg : ∀ t : State, ChannelsKeep t (t.setGroup k v) := fun t => .of_same rfl rfl rfl
    split
    · exact (hg _).trans (.foldl channelsKeep_testLevel _ _)
    · exact hg _
  · exact channelsKeep_refuse s _ _

theorem channelsKeep_takeConfigTrigger (l : Byte) (e : TriggerEntry) :
    ChannelsKeep s (s.takeConfigTrigger l e) := by
  unfold State.takeConfigTrigger
  dsimp only
  split
  · next k cfg _ _ =>
    refine .of_ack (r := .configTrigger l e) (ChannelsKeep.trans ?_ (channelsKeep_examine _))
    have hc : ∀ t : State, ChannelsKeep t (t.modTrigger k fun x => x.configure cfg) := fun t =>
      .of_same rfl rfl rfl
    exact (hc _).trans (channelsKeep_testLevel _ _)
  · exact channelsKeep_refuse s _ _

theorem channelsKeep_takeConfigMatcher (m : Byte) (e : MatcherEntry) :
    ChannelsKeep s (s.takeConfigMatcher m e) := by
  unfold State.takeConfigMatcher
  dsimp only
  split
  · refine ChannelsKeep.trans ?_ (channelsKeep_examine _)
    exact .of_same rfl rfl rfl
  · exact channelsKeep_refuse s _ _

/-! ### Requests of the store -/

theorem channelsKeep_takeStoreRead (a : Half) (n : Byte) : ChannelsKeep s (s.takeStoreRead a n) := by
  unfold State.takeStoreRead
  dsimp only
  split_ifs
  iterate 3 exact channelsKeep_refuse s _ _
  exact channelsKeep_startLinkOp s _

theorem channelsKeep_takeStoreProgram (w : Half) (d : List Byte) :
    ChannelsKeep s (s.takeStoreProgram w d) := by
  unfold State.takeStoreProgram
  dsimp only
  split_ifs
  iterate 4 exact channelsKeep_refuse s _ _
  exact .of_ack (channelsKeep_startLinkOp _ _)

theorem channelsKeep_takeEraseFrame (f : Byte) : ChannelsKeep s (s.takeEraseFrame f) := by
  unfold State.takeEraseFrame
  dsimp only
  split_ifs
  iterate 4 exact channelsKeep_refuse s _ _
  exact .of_ack (channelsKeep_startLinkOp _ _)

theorem channelsKeep_takeEraseAll : ChannelsKeep s s.takeEraseAll := by
  unfold State.takeEraseAll
  split_ifs
  iterate 2 exact channelsKeep_refuse s _ _
  exact .of_ack (channelsKeep_startLinkOp _ _)

theorem channelsKeep_takeReloadCurves : ChannelsKeep s s.takeReloadCurves := by
  unfold State.takeReloadCurves
  split_ifs
  · exact channelsKeep_refuse s _ _
  · exact channelsKeep_startLinkOp s _

/-! ### Requests that reach neither a context nor a channel -/

theorem channelsKeep_takeWriteEnable (m k : Half) : ChannelsKeep s (s.takeWriteEnable m k) := by
  unfold State.takeWriteEnable
  dsimp only
  split_ifs <;> exact .of_same rfl rfl rfl

theorem channelsKeep_takeQueryContext (c : Byte) : ChannelsKeep s (s.takeQueryContext c) := by
  unfold State.takeQueryContext
  split <;> exact .of_same rfl rfl rfl

theorem channelsKeep_takeQueryChannel (c : Byte) : ChannelsKeep s (s.takeQueryChannel c) := by
  unfold State.takeQueryChannel
  split <;> exact .of_same rfl rfl rfl

theorem channelsKeep_takeQueryTrigger (l : Byte) : ChannelsKeep s (s.takeQueryTrigger l) := by
  unfold State.takeQueryTrigger
  split <;> exact .of_same rfl rfl rfl

theorem channelsKeep_takePostEvent (e : Byte) : ChannelsKeep s (s.takePostEvent e) := by
  unfold State.takePostEvent
  dsimp only
  split <;> exact .of_same rfl rfl rfl

theorem channelsKeep_takeSetCounter (c v : Byte) : ChannelsKeep s (s.takeSetCounter c v) := by
  unfold State.takeSetCounter
  dsimp only
  split <;> exact .of_same rfl rfl rfl

theorem channelsKeep_takeSetTick (c : Byte) : ChannelsKeep s (s.takeSetTick c) := by
  unfold State.takeSetTick
  dsimp only
  split <;> exact .of_same rfl rfl rfl

/-- Every request's service (R182). -/
theorem channelsKeep_takeRequest (r : Request) : ChannelsKeep s (s.takeRequest r) := by
  cases r with
  | storeRead a n => exact channelsKeep_takeStoreRead s a n
  | storeProgram w d => exact channelsKeep_takeStoreProgram s w d
  | storeEraseFrame f => exact channelsKeep_takeEraseFrame s f
  | storeEraseAll => exact channelsKeep_takeEraseAll s
  | setWriteEnable m k => exact channelsKeep_takeWriteEnable s m k
  | go c => exact channelsKeep_takeGoRequest s _ c _
  | goWithPointer c p => exact channelsKeep_takeGoRequest s _ c _
  | pause c => exact channelsKeep_takePauseRequest s c
  | resume c => exact channelsKeep_takeResumeRequest s c
  | stop c => exact channelsKeep_takeStopRequest s c
  | release c f => exact channelsKeep_takeReleaseRequest s c f
  | configContext c h f => exact channelsKeep_takeConfigContext s c h f
  | queryContext c => exact channelsKeep_takeQueryContext s c
  | postEvent e => exact channelsKeep_takePostEvent s e
  | setCounter c v => exact channelsKeep_takeSetCounter s c v
  | queryCounters => exact channelsKeep_reply s _
  | setLevel c l f p => exact channelsKeep_takeSetLevel s c l f p
  | releaseLevel c f => exact channelsKeep_takeReleaseLevel s c f
  | queryChannel c => exact channelsKeep_takeQueryChannel s c
  | reloadCurves => exact channelsKeep_takeReloadCurves s
  | configChannel c e => exact channelsKeep_takeConfigChannel s c e
  | configFault k m => exact channelsKeep_takeConfigFault s k m
  | clearFault k => exact channelsKeep_takeClearFault s k
  | configGroup g e => exact channelsKeep_takeConfigGroup s g e
  | configTrigger l e => exact channelsKeep_takeConfigTrigger s l e
  | queryTrigger l => exact channelsKeep_takeQueryTrigger s l
  | configMatcher m e => exact channelsKeep_takeConfigMatcher s m e
  | queryQueue => exact .of_same rfl rfl rfl
  | setTick c => exact channelsKeep_takeSetTick s c
  | resetPart => exact .of_same rfl rfl rfl
  | identify => exact channelsKeep_reply s _
  | status => exact .of_same rfl rfl rfl

/-! ### The inbound side (R177 to R184) -/

theorem channelsKeep_modLink (f : Link → Link) : ChannelsKeep s (s.modLink f) := .of_same rfl rfl rfl

theorem channelsKeep_bringIntoService (f : InFrame) : ChannelsKeep s (s.bringIntoService f) := by
  have hs : ChannelsKeep s (s.modLink fun l => { l with service := some f }) := channelsKeep_modLink s _
  unfold State.bringIntoService
  refine hs.trans ?_
  unfold State.serve
  split
  · exact channelsKeep_reply _ _
  · next r =>
    split
    · exact channelsKeep_takeRequest _ r
    · exact channelsKeep_refuse _ r _

theorem channelsKeep_frameArrives (f : InFrame) : ChannelsKeep s (s.frameArrives f) := by
  unfold State.frameArrives
  split_ifs
  · exact .refl s
  · exact channelsKeep_modLink s _
  · exact channelsKeep_bringIntoService s f
  · exact channelsKeep_modLink s _

theorem channelsKeep_moveBuffered (f : InFrame) : ChannelsKeep s (s.moveBuffered f) :=
  (channelsKeep_modLink s _).trans (channelsKeep_bringIntoService _ f)

theorem channelsKeep_truncate : ChannelsKeep s s.truncate :=
  (channelsKeep_modLink s _).trans (channelsKeep_frameArrives _ _)

theorem channelsKeep_takeCharacter (b : Byte) (stop : Bool) : ChannelsKeep s (s.takeCharacter b stop) := by
  rcases takeCharacter_cases s b stop with h | ⟨v, h⟩ | ⟨f, h⟩
  · rw [h]; exact .refl s
  · exact h ▸ channelsKeep_modLink s _
  · exact h ▸ (channelsKeep_modLink s _).trans (channelsKeep_frameArrives _ f)

/-! ### The store's completions -/

theorem channelsKeep_completeRead (a : Half) (n : Byte) : ChannelsKeep s (s.completeRead a n) :=
  ((channelsKeep_modStore s _).trans (channelsKeep_reply _ _)).trans (channelsKeep_arbitrate _)

/-- A program or an erase ends with its notice. -/
theorem channelsKeep_done {u : State} (hu : ChannelsKeep s u) (n : Notice) :
    ChannelsKeep s (u.notify n).arbitrate :=
  (hu.trans (channelsKeep_notify u n)).trans (channelsKeep_arbitrate _)

theorem channelsKeep_completeProgram (word : Nat) (data : List Byte) :
    ChannelsKeep s (s.completeProgram word data) := by
  refine channelsKeep_done s (u := ite _ _ _) ?_ _
  split <;> exact .of_same rfl rfl rfl

theorem channelsKeep_completeEraseFrame (f : Nat) : ChannelsKeep s (s.completeEraseFrame f) := by
  refine channelsKeep_done s (u := ite _ _ _) ?_ _
  split <;> exact .of_same rfl rfl rfl

theorem channelsKeep_completeEraseAll : ChannelsKeep s s.completeEraseAll :=
  channelsKeep_done s (u := (s.endLinkOp.setCells []).testLock) (.of_same rfl rfl rfl) _

theorem channelsKeep_completeReload : ChannelsKeep s s.completeReload :=
  (((channelsKeep_modStore s _).trans (channelsKeep_fillCurves s.endLinkOp _)).trans
    (channelsKeep_reply _ _)).trans (channelsKeep_arbitrate _)

/-! ### Ticks -/

theorem channelsKeep_modOwed (f : TicksOwed → TicksOwed) : ChannelsKeep s (s.modOwed f) :=
  .of_same rfl rfl rfl

theorem channelsKeep_produceTick : ChannelsKeep s s.produceTick := .of_same rfl rfl rfl

theorem channelsKeep_countContexts : ChannelsKeep s s.countContexts := .of_same rfl rfl rfl

theorem channelsKeep_endCount (p : Ctx) : ChannelsKeep s (s.endCount p) :=
  (phaseStep_endCount p s).channelsKeep

theorem channelsKeep_tickPlay : ChannelsKeep s s.tickPlay := by
  unfold State.tickPlay
  exact (((channelsKeep_countContexts s).trans (channelsKeep_anyOrder _ _)).trans
    (.foldl channelsKeep_endCount _ _)).trans (channelsKeep_modOwed _ _)

theorem channelsKeep_tickOne (p : Ctx) : ChannelsKeep s (s.tickOne p) :=
  (channelsKeep_endCount s p).trans (channelsKeep_modOwed _ _)

theorem channelsKeep_tickMix (first : List Ctx) : ChannelsKeep s (s.tickMix first) := by
  unfold State.tickMix
  exact (((channelsKeep_updateClaims s _).trans (.foldl channelsKeep_takeClaimsGone _ _)).trans
    (channelsKeep_takeAllGone _ _)).trans (channelsKeep_modOwed _ _)

theorem channelsKeep_takeTrigTick : ChannelsKeep s s.takeTrigTick :=
  ((offerKeeps_channels s).tickTrig (.refl s)).trans (channelsKeep_modOwed _ _)

end

/-! ### A reset, and the steps of start-up (R168 to R175) -/

theorem viewOf_partReset (s : State) (cause : ResetCause) (ch : Chan) :
    (s.partReset cause).viewOf ch = (.reset, .reset) := by
  simp [State.viewOf, State.partReset, State.afterReset, State.mixCh, State.outCh, Mixer.reset, Output.reset]

/-- After a reset no channel has a claim, a partner or a duty (R108, R126). -/
theorem channelsKeep_partReset (s : State) (cause : ResetCause) : ChannelsKeep s (s.partReset cause) := by
  have hv := viewOf_partReset s cause
  have hm : ∀ ch, (s.partReset cause).mixCh ch = .reset := fun ch => congrArg Prod.fst (hv ch)
  have ho : ∀ ch, (s.partReset cause).outCh ch = .reset := fun ch => congrArg Prod.snd (hv ch)
  refine ⟨fun _ ch hs => ?_, fun _ => ⟨fun ch _ => ?_, fun ch => ?_⟩, fun _ =>
    (levelsSound_iff _).2 fun ch => ?_⟩
  · rw [hm] at hs ⊢
    exact nomatch hs
  · rw [ho]
    exact ⟨by decide, by decide, by decide⟩
  · rw [ho, ho]
    exact (Bool.and_false _).symm
  · rw [hv]
    exact ⟨⟨(nomatch ·), rfl⟩, fun _ => (ClaimSet.level_empty _).symm, fun _ => rfl⟩

theorem startConfig_mode_ne_pair (s : State) {ch : Chan} (ho : isOdd ch = true) :
    (s.startConfig ch).mode ≠ .pair := by
  rw [startConfig_eq]
  split
  · cases he : ChannelEntry.config (ChannelEntry.at s.store.cells.read (32 + 8 * ch.val)) ch with
    | none => exact (nomatch ·)
    | some cfg => exact config_mode_ne_pair he ho
  · exact (nomatch ·)

/-- The header's items: the odd partners of channels loaded PAIR become secondaries (R107, R108). -/
theorem secondariesSound_readHeader {s : State} (h : s.secondariesSound) : s.readHeader.secondariesSound := by
  intro ch
  rw [readHeader_mixCh, load_eq]
  dsimp only
  split
  · exact fun _ => ⟨rfl, rfl⟩
  · next hn =>
    intro hs
    have hs : (isOdd ch && (s.startConfig (evenPartner ch)).mode == .pair) = true := hs
    exact h ch (by simpa [hs] using hn)

/-- The output fields loaded from the header stand aside (R126; log 18). -/
theorem pairsSound_readHeader {s : State} (h : s.pairsSound) : s.readHeader.pairsSound := by
  obtain ⟨hodd, hpair⟩ := h
  refine ⟨fun ch ho => ?_, fun ch => ?_⟩
  · obtain ⟨hbuffered, hactive, -⟩ := hodd ch ho
    rw [readHeader_outCh]
    exact ⟨hbuffered, hactive, startConfig_mode_ne_pair s ho⟩
  · rw [readHeader_outCh, readHeader_outCh]
    exact hpair ch

/-- Through linear curves level 0 gives duty 0 (R100). -/
theorem duty_zero_of_linear {m : Mixer} (h : ∀ k : Fin 3, m.curves[k] = none) (curve : Fin 4) :
    m.duty curve 0 = 0 := by
  have hs : ∀ k : Fin 3, slotDuty m.curves[k] 0 = 0 := fun k => by rw [h k]; rfl
  match curve with
  | 0 => rfl
  | 1 => exact hs 0
  | 2 => exact hs 1
  | 3 => exact hs 2

/-- Before RUNNING every level is 0 and every curve linear, whatever the header gives (R108). -/
theorem State.Still.levelsSound {s : State} (h : s.Still) : s.levelsSound := by
  refine (levelsSound_iff s).2 fun ch => ?_
  obtain ⟨hclaims, hlevel, hlast, hduty⟩ := h.channels ch
  refine ⟨⟨fun _ => ⟨hclaims, hlevel⟩, hduty.trans hlast.symm⟩, fun _ => hlevel.trans ?_,
    fun _ => hlast.trans ?_⟩
  · show 0 = (s.mixCh ch).claims.level _
    rw [hclaims, ClaimSet.level_empty]
  · show 0 = s.mix.duty _ (s.mixCh ch).level
    rw [hlevel, duty_zero_of_linear h.curves]

/-- The loaded output fields come into force, and pairs are formed (R126). -/
theorem startOutput_outCh (s : State) (ch : Chan) : s.startOutput.outCh ch =
    { s.outCh ch with
      buffered := (s.outCh ch).startSettings (s.outCh ch).startConfig
      active := (s.outCh ch).startSettings (s.outCh ch).startConfig
      safe := (s.outCh ch).startConfig.safe
      mask := (s.outCh ch).startConfig.mask
      loaded := none
      paired := isOdd ch && (s.outCh (evenPartner ch)).startConfig.mode == .pair } := by
  simp [State.startOutput, State.outCh]

theorem pairsSound_startOutput {s : State} (h : s.pairsSound) : s.startOutput.pairsSound := by
  obtain ⟨hodd, -⟩ := h
  refine ⟨fun ch ho => ?_, fun ch => ?_⟩
  · obtain ⟨-, -, hstart⟩ := hodd ch ho
    rw [startOutput_outCh]
    exact ⟨hstart, hstart, (nomatch ·)⟩
  · rw [startOutput_outCh, startOutput_outCh]
    rfl

theorem channelsKeep_startOutput (s : State) : ChannelsKeep s s.startOutput :=
  ⟨id, pairsSound_startOutput, levelsSound_out rfl fun ch => by rw [startOutput_outCh]; rfl⟩

theorem channelsKeep_autostart (s : State) : ChannelsKeep s s.autostart :=
  (channelsKeep_anyOrder s _).trans
    (.foldl (fun t p => (phaseStep_takeGo p t none).channelsKeep) _ _)

theorem channelsKeep_startRunning (s : State) (valid : Bool) : ChannelsKeep s (s.startRunning valid) :=
  (channelsKeep_notify s _).trans (.of_same rfl rfl rfl)

theorem channelsKeep_completeStartUp (s : State) (valid : Bool) :
    ChannelsKeep s (s.completeStartUp valid) := by
  have h : ChannelsKeep s (s.endStartUp valid) :=
    (((((channelsKeep_fillCurves s _).trans (channelsKeep_translateAll _)).trans
      (channelsKeep_startRunning _ valid)).trans (channelsKeep_startOutput _)).trans
        (channelsKeep_autostart _)).trans (channelsKeep_examine _)
  unfold State.completeStartUp
  dsimp only
  split
  · exact h.trans (channelsKeep_moveBuffered _ _)
  · exact h

/-! ### Every command -/

/-- All that a command does to the channels: it keeps them, or it loads the header's items. -/
inductive ChannelCase (s : State) : State → Prop
  | keeps {t : State} (h : ChannelsKeep s t) : ChannelCase s t
  | header (h : s.clk.stage = .readingHeader) : ChannelCase s s.readHeader

section
variable {s t : State}

/-- An event that occurs under a condition. -/
theorem channelsKeep_of_ite {c : Prop} [Decidable c] {x : State} {m : String}
    (h : (if c then Host.Outcome.next x else cannotOccur m) = .next t) (hk : c → ChannelsKeep s x) :
    ChannelsKeep s t := by
  obtain ⟨hc, rfl⟩ := of_next_ite h
  exact hk hc

theorem channelCase_requestCommand (r : Request) (h : exec (requestCommand r) s = .next t) :
    ChannelCase s t := by
  rw [exec_requestCommand] at h
  cases h
  exact .keeps (channelsKeep_frameArrives s _)

theorem channelsKeep_storeReadComplete (h : exec .storeReadComplete s = .next t) : ChannelsKeep s t := by
  change execStoreReadComplete s = _ at h
  unfold execStoreReadComplete at h
  split at h
  · cases h; exact channelsKeep_completeRead s _ _
  · cases h

theorem channelsKeep_storeProgramComplete (h : exec .storeProgramComplete s = .next t) :
    ChannelsKeep s t := by
  change execStoreProgramComplete s = _ at h
  unfold execStoreProgramComplete at h
  split at h
  · cases h; exact channelsKeep_completeProgram s _ _
  · cases h

theorem channelsKeep_eraseFrameComplete (h : exec .eraseFrameComplete s = .next t) : ChannelsKeep s t := by
  change execEraseFrameComplete s = _ at h
  unfold execEraseFrameComplete at h
  split at h
  · cases h; exact channelsKeep_completeEraseFrame s _
  · cases h

theorem channelsKeep_eraseAllComplete (h : exec .eraseAllComplete s = .next t) : ChannelsKeep s t := by
  change execEraseAllComplete s = _ at h
  unfold execEraseAllComplete at h
  split at h
  · cases h; exact channelsKeep_completeEraseAll s
  · cases h

theorem channelsKeep_curveLoadComplete (h : exec .curveLoadComplete s = .next t) : ChannelsKeep s t := by
  change execCurveLoadComplete s = _ at h
  unfold execCurveLoadComplete at h
  split at h
  · cases h; exact channelsKeep_completeReload s
  · cases h

theorem channelsKeep_linkStepReadComplete (h : exec .linkStepReadComplete s = .next t) :
    ChannelsKeep s t := by
  change execLinkStepReadComplete s = _ at h
  unfold execLinkStepReadComplete at h
  split at h
  · cases h; exact channelsKeep_completeFetch s _ _ _ _
  · cases h

theorem channelsKeep_probeReadComplete (h : exec .probeReadComplete s = .next t) : ChannelsKeep s t := by
  change execProbeReadComplete s = _ at h
  unfold execProbeReadComplete at h
  split at h
  · cases h; exact channelsKeep_completeFetch s _ _ _ _
  · cases h

theorem channelsKeep_recordReadComplete (h : exec .recordReadComplete s = .next t) : ChannelsKeep s t := by
  change execRecordReadComplete s = _ at h
  unfold execRecordReadComplete at h
  split at h
  · cases h; exact channelsKeep_completeFetch s _ _ _ _
  · cases h

theorem channelsKeep_post {p : Ctx} {e : EventId} (h : exec (.post p e) s = .next t) : ChannelsKeep s t :=
  channelsKeep_of_ite h fun _ => ChannelsKeep.trans (t := { s with posts := s.posts.erase (p, e) })
    (.of_same rfl rfl rfl) (channelsKeep_takePost _ p e)

theorem channelsKeep_phaseReport {p : Ctx} (h : exec (.phaseReport p) s = .next t) : ChannelsKeep s t := by
  change execPhaseReport p s = _ at h
  unfold execPhaseReport at h
  split at h
  · next r _ =>
    cases h
    have hr : ChannelsKeep s { s with reports := s.reports.erase r } := .of_same rfl rfl rfl
    exact hr.trans ((offerKeeps_channels _).takeReport (.refl _) r)
  · cases h

theorem channelsKeep_frameTransmitted (h : exec .frameTransmitted s = .next t) : ChannelsKeep s t := by
  change execFrameTransmitted s = _ at h
  unfold execFrameTransmitted at h
  split at h
  · cases h
    unfold State.frameSent
    split
    · exact channelsKeep_partReset s _
    · exact channelsKeep_modLink s _
  · cases h

theorem channelsKeep_bufferedRequestMove (h : exec .bufferedRequestMove s = .next t) :
    ChannelsKeep s t := by
  change execBufferedRequestMove s = _ at h
  unfold execBufferedRequestMove at h
  split at h
  · cases h; exact channelsKeep_moveBuffered s _
  · cases h

theorem channelsKeep_resetEnd {b : Bool} (h : exec (.resetEnd b) s = .next t) : ChannelsKeep s t := by
  change execResetEnd b s = _ at h
  unfold execResetEnd at h
  split at h
  · cases h; exact .of_same rfl rfl rfl
  · cases h

theorem channelCase_headerReadComplete (h : exec .headerReadComplete s = .next t) : ChannelCase s t := by
  change execHeaderReadComplete s = _ at h
  unfold execHeaderReadComplete at h
  split at h
  · next hg => cases h; exact .header hg
  · cases h

theorem channelsKeep_startUpCurveLoadComplete (h : exec .startUpCurveLoadComplete s = .next t) :
    ChannelsKeep s t := by
  change execStartUpCurveLoadComplete s = _ at h
  unfold execStartUpCurveLoadComplete at h
  split at h
  · cases h; exact channelsKeep_completeStartUp s _
  · cases h

end

/-- Every command with a next state is one of the cases. -/
theorem channelCase_of_exec {c : Instr} {s t : State} (h : exec c s = .next t) : ChannelCase s t := by
  have htrig : ∀ {u : State}, (∀ {P : State → Prop}, OfferKeeps P → P s → P u) → ChannelsKeep s u :=
    fun hu => hu (offerKeeps_channels s) (.refl s)
  cases c with
  | storeRead a n => exact channelCase_requestCommand (.storeRead a n) h
  | storeProgram w d => exact channelCase_requestCommand (.storeProgram w d) h
  | storeEraseFrame f => exact channelCase_requestCommand (.storeEraseFrame f) h
  | storeEraseAll => exact channelCase_requestCommand .storeEraseAll h
  | setWriteEnable m k => exact channelCase_requestCommand (.setWriteEnable m k) h
  | go p => exact channelCase_requestCommand (.go p) h
  | goWithPointer p f => exact channelCase_requestCommand (.goWithPointer p f) h
  | pause p => exact channelCase_requestCommand (.pause p) h
  | resume p => exact channelCase_requestCommand (.resume p) h
  | stop p => exact channelCase_requestCommand (.stop p) h
  | release p f => exact channelCase_requestCommand (.release p f) h
  | configContext p f r => exact channelCase_requestCommand (.configContext p f r) h
  | queryContext p => exact channelCase_requestCommand (.queryContext p) h
  | postEvent e => exact channelCase_requestCommand (.postEvent e) h
  | setCounter k v => exact channelCase_requestCommand (.setCounter k v) h
  | queryCounters => exact channelCase_requestCommand .queryCounters h
  | setLevel ch l f p => exact channelCase_requestCommand (.setLevel ch l f p) h
  | releaseLevel ch f => exact channelCase_requestCommand (.releaseLevel ch f) h
  | queryChannel ch => exact channelCase_requestCommand (.queryChannel ch) h
  | reloadCurves => exact channelCase_requestCommand .reloadCurves h
  | configChannel ch e => exact channelCase_requestCommand (.configChannel ch e) h
  | configFault k m => exact channelCase_requestCommand (.configFault k m) h
  | clearFault k => exact channelCase_requestCommand (.clearFault k) h
  | configGroup g e => exact channelCase_requestCommand (.configGroup g e) h
  | configTrigger l e => exact channelCase_requestCommand (.configTrigger l e) h
  | queryTrigger l => exact channelCase_requestCommand (.queryTrigger l) h
  | configMatcher m e => exact channelCase_requestCommand (.configMatcher m e) h
  | queryQueue => exact channelCase_requestCommand .queryQueue h
  | setTick k => exact channelCase_requestCommand (.setTick k) h
  | resetPart => exact channelCase_requestCommand .resetPart h
  | identify => exact channelCase_requestCommand .identify h
  | status => exact channelCase_requestCommand .status h
  | storeReadComplete => exact .keeps (channelsKeep_storeReadComplete h)
  | storeProgramComplete => exact .keeps (channelsKeep_storeProgramComplete h)
  | eraseFrameComplete => exact .keeps (channelsKeep_eraseFrameComplete h)
  | eraseAllComplete => exact .keeps (channelsKeep_eraseAllComplete h)
  | curveLoadComplete => exact .keeps (channelsKeep_curveLoadComplete h)
  | linkStepReadComplete => exact .keeps (channelsKeep_linkStepReadComplete h)
  | probeReadComplete => exact .keeps (channelsKeep_probeReadComplete h)
  | recordReadComplete => exact .keeps (channelsKeep_recordReadComplete h)
  | tick => exact .keeps (channelsKeep_of_ite h fun _ => channelsKeep_produceTick s)
  | tickArrivalPlay => exact .keeps (channelsKeep_of_ite h fun _ => channelsKeep_tickPlay s)
  | tickArrivalMix => exact .keeps (channelsKeep_of_ite h fun _ => channelsKeep_tickMix s _)
  | tickArrivalTrig => exact .keeps (channelsKeep_of_ite h fun _ => channelsKeep_takeTrigTick s)
  | fadeComplete p => exact .keeps (channelsKeep_of_ite h fun _ => channelsKeep_tickOne s p)
  | holdExpiry p => exact .keeps (channelsKeep_of_ite h fun _ => channelsKeep_tickOne s p)
  | waitTimeout p => exact .keeps (channelsKeep_of_ite h fun _ => channelsKeep_tickOne s p)
  | releaseFadeEnd ch who => exact .keeps (channelsKeep_of_ite h fun _ => channelsKeep_tickMix s _)
  | gapLapse m => exact .keeps (channelsKeep_of_ite h fun _ => channelsKeep_takeTrigTick s)
  | recordExpiry src => exact .keeps (channelsKeep_of_ite h fun _ => channelsKeep_takeTrigTick s)
  | post p e => exact .keeps (channelsKeep_post h)
  | phaseReport p => exact .keeps (channelsKeep_phaseReport h)
  | acceptedChange l high =>
    exact .keeps (channelsKeep_of_ite h fun _ => htrig fun ho hs => ho.acceptChange hs l high)
  | firstSample l high =>
    exact .keeps (channelsKeep_of_ite h fun _ => htrig fun ho hs => ho.takeFirstSample hs l high)
  | faultInputChange k a => exact .keeps (channelsKeep_of_ite h fun _ => channelsKeep_setSource s k _)
  | periodStart ch => exact .keeps (channelsKeep_of_ite h fun hc => channelsKeep_startPeriod s hc.2)
  | byteArrival b stop => cases h; exact .keeps (channelsKeep_takeCharacter s b stop)
  | gapExpiry => exact .keeps (channelsKeep_of_ite h fun _ => channelsKeep_truncate s)
  | frameTransmitted => exact .keeps (channelsKeep_frameTransmitted h)
  | holdChange high => cases h; exact .keeps (channelsKeep_modLink s _)
  | bufferedRequestMove => exact .keeps (channelsKeep_bufferedRequestMove h)
  | powerReset => cases h; exact .keeps (channelsKeep_partReset s _)
  | pinReset => cases h; exact .keeps (channelsKeep_partReset s _)
  | resetEnd b => exact .keeps (channelsKeep_resetEnd h)
  | headerReadComplete => exact channelCase_headerReadComplete h
  | startUpCurveLoadComplete => exact .keeps (channelsKeep_startUpCurveLoadComplete h)
  | lineSample l high => exact .keeps (channelsKeep_of_ite h fun _ => .of_same rfl rfl rfl)

/-- What the cases give: only the header's items need the part still before RUNNING. -/
theorem ChannelCase.sound {s t : State} (h : ChannelCase s t) :
    (s.secondariesSound → t.secondariesSound) ∧ (s.pairsSound → t.pairsSound)
      ∧ (s.quietBeforeRunning → s.levelsSound → t.levelsSound) := by
  cases h with
  | keeps hk => exact ⟨hk.secondaries, hk.pairs, fun _ => hk.levels⟩
  | header hg =>
    refine ⟨secondariesSound_readHeader, pairsSound_readHeader, fun hq _ => ?_⟩
    exact ((quietBeforeRunning_iff s).1 hq (isRunning_of_stage hg (nomatch ·))).readHeader.levelsSound

/-- Settles O59: an idle step keeps everything, and every other step is a command's. -/
theorem stepKeepsTheChannels : Obligations.StepKeepsTheChannels := by
  intro s t h
  unfold step at h
  split at h
  · cases h
    exact ⟨id, id, fun _ => id⟩
  · exact (channelCase_of_exec h).sound

end Sys2Proof.Machine
end

section
/-! The arithmetic of a fade (R96). -/

namespace Sys2Proof.Machine

/-- The part of a span that a fade has covered is not more than the span. -/
theorem covered_le {span elapsed total : Nat} (h : elapsed ≤ total) : span * elapsed / total ≤ span :=
  Nat.div_le_of_le_mul ((Nat.mul_le_mul_left span h).trans_eq (Nat.mul_comm span total))

/-- A level that is a natural number below 256 stands in its byte as it is. -/
theorem toNat_ofInt_byte {i : Int} {n : Nat} (h : i = n) (hn : n < 256) :
    (BitVec.ofInt 8 i).toNat = n := by
  rw [h, BitVec.ofInt_natCast, BitVec.toNat_ofNat, Nat.mod_eq_of_lt hn]

theorem fadeLevel_of_rising {start target : Byte} {elapsed total : Nat}
    (h : start.toNat ≤ target.toNat) (he : elapsed ≤ total) :
    (fadeLevel start target elapsed total).toNat
      = start.toNat + (target.toNat - start.toNat) * elapsed / total := by
  have hq := covered_le (span := target.toNat - start.toNat) he
  have ht := target.isLt
  refine toNat_ofInt_byte ?_ (by omega)
  rw [← Int.ofNat_sub h, ← Int.natCast_mul, ← Int.ofNat_tdiv, Int.natCast_add]

/-- A falling fade truncates toward zero as well, so that its level lies above the exact one. -/
theorem fadeLevel_of_falling {start target : Byte} {elapsed total : Nat}
    (h : target.toNat ≤ start.toNat) (he : elapsed ≤ total) :
    (fadeLevel start target elapsed total).toNat
      = start.toNat - (start.toNat - target.toNat) * elapsed / total := by
  have hq := covered_le (span := start.toNat - target.toNat) he
  refine toNat_ofInt_byte ?_ ((Nat.sub_le _ _).trans_lt start.isLt)
  rw [← neg_sub (start.toNat : Int), ← Int.ofNat_sub h, Int.neg_mul, ← Int.natCast_mul, Int.neg_tdiv,
    ← Int.ofNat_tdiv, Int.natCast_sub (hq.trans (Nat.sub_le _ _)), Int.sub_eq_add_neg]

theorem fadeLevel_of_ended (start target : Byte) {total : Nat} (h : 0 < total) :
    fadeLevel start target total total = target := by
  have hdiv : (((target.toNat : Int) - start.toNat) * total).tdiv total = target.toNat - start.toNat :=
    Int.mul_tdiv_cancel _ (by omega)
  have hlevel : (start.toNat : Int) + (target.toNat - start.toNat) = target.toNat := by omega
  unfold fadeLevel
  rw [hdiv, hlevel]
  exact BitVec.eq_of_toNat_eq (toNat_ofInt_byte rfl target.isLt)

/-- Settles O31: a fade that rises, one that falls, and the last tick. -/
theorem fadeArithmetic : Obligations.FadeArithmetic :=
  fun start target _ _ hpos he =>
    ⟨fun hrise => fadeLevel_of_rising hrise he, fun hfall => fadeLevel_of_falling hfall he,
      fadeLevel_of_ended start target hpos⟩

end Sys2Proof.Machine
end

section
/-! The arbitration of a claim set: its greatest present level and its selected claim (R97, R98). -/

namespace Sys2Proof.Machine

theorem mem_allClaimants (who : Claimant) : who ∈ allClaimants := by
  cases who with
  | ctx p => fin_cases p <;> decide
  | link => decide

theorem ClaimSet.mem_list {cs : ClaimSet} {who : Claimant} {c : Claim} :
    (who, c) ∈ cs.list ↔ cs.get who = some c := by
  simp [ClaimSet.list, List.mem_filterMap, mem_allClaimants]

theorem ClaimSet.mem_claims {cs : ClaimSet} {c : Claim} :
    c ∈ cs.list.map Prod.snd ↔ ∃ who, cs.get who = some c := by
  simp [ClaimSet.mem_list]

/-! ### The greatest present level (R97) -/

/-- The greater of a level and a claim's present level. -/
abbrev levelWith (m : Byte) (c : Claim) : Byte := if m.toNat < c.present.toNat then c.present else m

theorem le_levelWith (m : Byte) (c : Claim) :
    m.toNat ≤ (levelWith m c).toNat ∧ c.present.toNat ≤ (levelWith m c).toNat := by
  unfold levelWith
  split
  · next h => exact ⟨h.le, le_rfl⟩
  · next h => exact ⟨le_rfl, not_lt.1 h⟩

/-- No level among the claims, nor the one begun with, is above the greatest. -/
theorem le_foldl_levelWith (l : List Claim) (m : Byte) :
    m.toNat ≤ (l.foldl levelWith m).toNat
      ∧ ∀ c ∈ l, c.present.toNat ≤ (l.foldl levelWith m).toNat := by
  induction l generalizing m with
  | nil => exact ⟨le_rfl, List.forall_mem_nil _⟩
  | cons c l ih =>
    obtain ⟨hm, hc⟩ := le_levelWith m c
    obtain ⟨hfirst, hrest⟩ := ih (levelWith m c)
    exact ⟨hm.trans hfirst, List.forall_mem_cons.2 ⟨hc.trans hfirst, hrest⟩⟩

/-- The greatest level is the one begun with, or a claim has it. -/
theorem foldl_levelWith_attained (l : List Claim) (m : Byte) :
    l.foldl levelWith m = m ∨ ∃ c ∈ l, l.foldl levelWith m = c.present := by
  induction l generalizing m with
  | nil => exact .inl rfl
  | cons c l ih =>
    rw [List.foldl_cons]
    rcases ih (levelWith m c) with hkept | ⟨d, hd, hlevel⟩
    · rw [hkept]
      unfold levelWith
      split
      · exact .inr ⟨c, List.mem_cons_self, rfl⟩
      · exact .inl rfl
    · exact .inr ⟨d, List.mem_cons_of_mem c hd, hlevel⟩

theorem le_greatestLevel {l : List Claim} {c : Claim} (h : c ∈ l) :
    c.present.toNat ≤ (greatestLevel l).toNat :=
  (le_foldl_levelWith l 0).2 c h

theorem greatestLevel_attained {l : List Claim} (h : ∃ c, c ∈ l) :
    ∃ c ∈ l, greatestLevel l = c.present := by
  rcases foldl_levelWith_attained l 0 with hzero | hattained
  · obtain ⟨c, hc⟩ := h
    have hle : c.present.toNat ≤ (0 : Byte).toNat := hzero ▸ le_greatestLevel hc
    exact ⟨c, hc, hzero.trans (BitVec.eq_of_toNat_eq (Nat.le_zero.1 hle)).symm⟩
  · exact hattained

/-! ### The selected claim (R98) -/

/-- A claim that comes after another in the selection, or with it (R98). -/
def Claim.Within (a b : Claim) : Prop :=
  a.priority < b.priority ∨ a.priority = b.priority ∧ a.stamp ≤ b.stamp

theorem Claim.Within.refl (a : Claim) : a.Within a := .inr ⟨rfl, le_rfl⟩

theorem Claim.Within.trans {a b c : Claim} (h : a.Within b) (k : b.Within c) : a.Within c := by
  rcases h with h | ⟨hp, hs⟩
  · rcases k with k | ⟨kp, _⟩
    · exact .inl (h.trans k)
    · exact .inl (h.trans_eq kp)
  · rcases k with k | ⟨kp, ks⟩
    · exact .inl (hp.trans_lt k)
    · exact .inr ⟨hp.trans kp, hs.trans ks⟩

/-- A claim comes before those that are within it, and no other. -/
theorem Claim.within_of_beats {a b : Claim} (h : a.beats b = true) : b.Within a := by
  simp only [Claim.beats, Bool.or_eq_true, Bool.and_eq_true, decide_eq_true_eq, beq_iff_eq] at h
  exact h.imp id fun ⟨hp, hs⟩ => ⟨hp.symm, hs.le⟩

theorem Claim.within_of_not_beats {a b : Claim} (h : ¬ a.beats b = true) : a.Within b := by
  simp only [Claim.beats, Bool.or_eq_true, Bool.and_eq_true, decide_eq_true_eq, beq_iff_eq, not_or,
    not_and, not_lt] at h
  obtain ⟨hp, hs⟩ := h
  exact (lt_or_eq_of_le (Fin.le_def.2 hp)).imp id fun he => ⟨he, hs he⟩

/-- The best claim of those looked at, with the next one looked at. -/
def better (best : Option (Claimant × Claim)) (c : Claimant × Claim) : Option (Claimant × Claim) :=
  if c.2.releasing then best
  else match best with
    | none => some c
    | some b => if c.2.beats b.2 then some c else some b

/-- What the selection has found of a list: a claim that is not releasing and that every such claim is
within, or none where all are releasing. -/
inductive Selects (l : List (Claimant × Claim)) : Option (Claimant × Claim) → Prop where
  | none (h : ∀ c ∈ l, c.2.releasing = true) : Selects l none
  | some {b : Claimant × Claim} (hmem : b ∈ l) (hrel : b.2.releasing = false)
      (h : ∀ c ∈ l, c.2.releasing = false → c.2.Within b.2) : Selects l (some b)

theorem selects_better {l : List (Claimant × Claim)} {best : Option (Claimant × Claim)}
    (h : Selects l best) (c : Claimant × Claim) : Selects (l ++ [c]) (better best c) := by
  unfold better
  split
  case isTrue hc =>
    cases h with
    | none hall => exact .none (List.forall_mem_append.2 ⟨hall, List.forall_mem_singleton.2 hc⟩)
    | some hmem hrel hbest =>
      refine .some (List.mem_append_left _ hmem) hrel (List.forall_mem_append.2 ⟨hbest, ?_⟩)
      exact List.forall_mem_singleton.2 fun hn => Bool.noConfusion (hc.symm.trans hn)
  case isFalse hc =>
    have hcrel := Bool.eq_false_iff.2 hc
    have hlast : c ∈ l ++ [c] := List.mem_append_right _ (List.mem_singleton_self c)
    cases h with
    | none hall =>
      refine .some hlast hcrel (List.forall_mem_append.2 ⟨fun d hd hn => ?_, ?_⟩)
      · exact Bool.noConfusion ((hall d hd).symm.trans hn)
      · exact List.forall_mem_singleton.2 fun _ => .refl _
    | @some b hmem hrel hbest =>
      dsimp only
      split
      · next hbeats =>
        have hwithin := Claim.within_of_beats hbeats
        refine .some hlast hcrel (List.forall_mem_append.2 ⟨fun d hd hn => ?_, ?_⟩)
        · exact (hbest d hd hn).trans hwithin
        · exact List.forall_mem_singleton.2 fun _ => .refl _
      · next hbeats =>
        refine .some (List.mem_append_left _ hmem) hrel (List.forall_mem_append.2 ⟨hbest, ?_⟩)
        exact List.forall_mem_singleton.2 fun _ => Claim.within_of_not_beats hbeats

theorem selects_foldl {l : List (Claimant × Claim)} {best : Option (Claimant × Claim)}
    (h : Selects l best) (rest : List (Claimant × Claim)) :
    Selects (l ++ rest) (rest.foldl better best) := by
  induction rest generalizing l best with
  | nil => rwa [List.append_nil]
  | cons c rest ih =>
    rw [List.append_cons]
    exact ih (selects_better h c)

theorem selects_selectClaim (l : List (Claimant × Claim)) : Selects l (selectClaim l) :=
  selects_foldl (.none (List.forall_mem_nil _)) l

theorem selectClaim_eq_some {l : List (Claimant × Claim)} {b : Claimant × Claim}
    (h : selectClaim l = some b) :
    b ∈ l ∧ b.2.releasing = false ∧ ∀ c ∈ l, c.2.releasing = false → c.2.Within b.2 := by
  have hs := selects_selectClaim l
  rw [h] at hs
  cases hs with
  | some hmem hrel hbest => exact ⟨hmem, hrel, hbest⟩

theorem selectClaim_eq_none {l : List (Claimant × Claim)} :
    selectClaim l = none ↔ ∀ c ∈ l, c.2.releasing = true := by
  refine ⟨fun h => ?_, fun h => ?_⟩
  · have hs := selects_selectClaim l
    rw [h] at hs
    cases hs with
    | none hall => exact hall
  · refine Option.eq_none_iff_forall_ne_some.2 fun b hb => ?_
    obtain ⟨hmem, hrel, _⟩ := selectClaim_eq_some hb
    exact Bool.noConfusion ((h b hmem).symm.trans hrel)

/-! ### The effective level (R97, R98) -/

theorem ClaimSet.level_htp (cs : ClaimSet) : cs.level .htp = greatestLevel (cs.list.map Prod.snd) := rfl

theorem ClaimSet.level_priority_of_none {cs : ClaimSet} (h : selectClaim cs.list = none) :
    cs.level .priority = cs.level .htp := by
  rw [ClaimSet.level_htp]
  unfold ClaimSet.level
  rw [h]

theorem ClaimSet.level_priority_of_some {cs : ClaimSet} {b : Claimant × Claim}
    (h : selectClaim cs.list = some b) :
    cs.level .priority = greatestLevel (b.2 :: (cs.list.map Prod.snd).filter fun c =>
      c.releasing && b.2.priority.val < c.priority.val) := by
  unfold ClaimSet.level
  rw [h]

/-- The claims whose levels count beside the selected one. -/
theorem ClaimSet.mem_counted {cs : ClaimSet} {who : Claimant} {sel c : Claim}
    (hsel : cs.get who = some sel) :
    (c ∈ sel :: (cs.list.map Prod.snd).filter fun d =>
        d.releasing && sel.priority.val < d.priority.val)
      ↔ ∃ w, cs.get w = some c ∧ (c = sel ∨ c.releasing = true ∧ sel.priority < c.priority) := by
  rw [List.mem_cons, List.mem_filter, ClaimSet.mem_claims, Bool.and_eq_true, decide_eq_true_eq,
    ← Fin.lt_def]
  refine ⟨?_, ?_⟩
  · rintro (rfl | ⟨⟨w, hw⟩, hcounts⟩)
    · exact ⟨who, hsel, .inl rfl⟩
    · exact ⟨w, hw, .inr hcounts⟩
  · rintro ⟨w, hw, rfl | hcounts⟩
    · exact .inl rfl
    · exact .inr ⟨⟨w, hw⟩, hcounts⟩

theorem ClaimSet.get_empty (who : Claimant) : ClaimSet.empty.get who = none := by
  cases who with
  | ctx p => simp [ClaimSet.get, ClaimSet.empty]
  | link => rfl

/-- The level of an empty set is 0 under either mode. -/
theorem ClaimSet.level_of_no_claim {cs : ClaimSet} (h : ∀ who, cs.get who = none) (mode : Arbitration) :
    cs.level mode = 0 := by
  have hempty : cs = .empty := ClaimSet.ext_get fun who => (h who).trans (ClaimSet.get_empty who).symm
  rw [hempty, ClaimSet.level_empty]

/-- Settles O33: the selected claim bounds the others that are not releasing, and the levels are greatest
levels of the claims that count. -/
theorem levelsAreArbitrated : Obligations.LevelsAreArbitrated := by
  intro cs
  refine ⟨fun who sel h => ?_, ?_, ClaimSet.level_priority_of_none,
    fun w c hc => le_greatestLevel (ClaimSet.mem_claims.2 ⟨w, hc⟩),
    fun h => ⟨ClaimSet.level_of_no_claim h _, ClaimSet.level_of_no_claim h _⟩, fun ⟨w, c, hc⟩ => ?_⟩
  · obtain ⟨hmem, hrel, hbest⟩ := selectClaim_eq_some h
    have hsel := ClaimSet.mem_list.1 hmem
    rw [ClaimSet.level_priority_of_some h]
    refine ⟨hsel, hrel, fun w c hc => hbest (w, c) (ClaimSet.mem_list.2 hc), fun w c hc hcounts => ?_, ?_⟩
    · exact le_greatestLevel ((ClaimSet.mem_counted hsel).2 ⟨w, hc, hcounts⟩)
    · obtain ⟨c, hc, hlevel⟩ := greatestLevel_attained ⟨sel, List.mem_cons_self⟩
      obtain ⟨w, hw, hcounts⟩ := (ClaimSet.mem_counted hsel).1 hc
      exact ⟨w, c, hw, hcounts, hlevel⟩
  · rw [selectClaim_eq_none, Prod.forall]
    exact forall₂_congr fun w c => imp_congr_left ClaimSet.mem_list
  · obtain ⟨d, hd, hlevel⟩ := greatestLevel_attained ⟨c, ClaimSet.mem_claims.2 ⟨w, hc⟩⟩
    obtain ⟨v, hv⟩ := ClaimSet.mem_claims.1 hd
    exact ⟨v, d, hv, hlevel⟩

end Sys2Proof.Machine
end

section
/-! SET_LEVEL and RELEASE_LEVEL (R89, R91, R92, R103, R104). -/

namespace Sys2Proof.Machine

/-- What the mixer makes of an acknowledged request reaches neither the reply nor the rest of the part. -/
theorem MixOnly.of_ack {s t : State} {r : Request} (h : MixOnly (s.ack r) t) :
    { t with link := s.link, mix := s.mix, out := s.out } = s ∧ t.link = (s.ack r).link :=
  ⟨by rw [h.eq]; rfl, h.link⟩

/-- The claims beside the LINK claim are the contexts'. -/
theorem ClaimSet.others_link (cs : ClaimSet) :
    cs.others .link = [Claimant.ctx 0, .ctx 1, .ctx 2, .ctx 3].filterMap (cs.get ·) := rfl

/-! ### SET_LEVEL (R103) -/

theorem setLevel_refused {s : State} (h : s.accepts) {n level priority : Byte} {fade : Half}
    (hbad : 15 < n.toNat ∨ 7 < priority.toNat ∨ fade.toNat = 65535) :
    exec (.setLevel n level fade priority) s
      = .next (s.refuse (.setLevel n level fade priority) .badField) := by
  refine exec_of_refused h (r := .setLevel n level fade priority) ?_
  rw [State.takeRequest, State.takeSetLevel]
  split
  · next ch prio hn hp =>
    have hn := byteFin_val hn
    have hp := byteFin_val hp
    exact if_pos (show fade.toNat = 65535 by omega)
  · rfl

section
variable {s : State} (h : s.accepts) {n priority : Byte} {fade : Half} {ch : Chan} {prio : Fin 8}
  (hn : n.toNat = ch.val) (hp : priority.toNat = prio.val) (hf : fade.toNat ≠ 65535) (level : Byte)
include h hn hp hf

theorem setLevel_slaved (hs : (s.mixCh ch).secondary = true) :
    exec (.setLevel n level fade priority) s
      = .next (s.refuse (.setLevel n level fade priority) .slaved) := by
  refine exec_of_refused h (r := .setLevel n level fade priority) ?_
  rw [State.takeRequest, State.takeSetLevel, byteFin_eq_some hn, byteFin_eq_some hp]
  exact (if_neg hf).trans (if_pos hs)

theorem exec_setLevel (hs : (s.mixCh ch).secondary = false) :
    exec (.setLevel n level fade priority) s
      = .next ((s.ack (.setLevel n level fade priority)).claimArrives ch .link level fade.toNat prio) := by
  refine exec_of_served h (r := .setLevel n level fade priority) ?_
  rw [State.takeRequest, State.takeSetLevel, byteFin_eq_some hn, byteFin_eq_some hp]
  exact (if_neg hf).trans (if_neg (by rw [show ((s.serving _).mixCh ch).secondary = false from hs]; decide))

end

/-- A claim's arrival reaches the records of its own channel only. -/
theorem claimArrives_of_ne {ch c : Chan} (s : State) (who : Claimant) (target : Byte) (fade : Nat)
    (priority : Fin 8) (h : c ≠ ch) :
    (s.claimArrives ch who target fade priority).mixCh c = s.mixCh c
      ∧ (s.claimArrives ch who target fade priority).outCh c = s.outCh c :=
  ⟨claimArrives_mixCh_of_ne s who target fade priority h, settle_outCh_of_ne _ _ h⟩

/-- The claims of the channel on which a claim has arrived. -/
theorem claimArrives_get (s : State) (ch : Chan) (who w : Claimant) (target : Byte) (fade : Nat)
    (priority : Fin 8) :
    ((s.claimArrives ch who target fade priority).mixCh ch).claims.get w
      = if w = who then some ((s.mixCh ch).newClaim who target fade priority)
        else ((s.mixCh ch).claims.get w).map ((s.mixCh ch).kept who) := by
  rw [(claimArrives_sameFor s ch who target fade priority).claims, arrive_get]

theorem claimArrives_stampCounter (s : State) (ch : Chan) (who : Claimant) (target : Byte) (fade : Nat)
    (priority : Fin 8) :
    ((s.claimArrives ch who target fade priority).mixCh ch).stampCounter
      = (s.mixCh ch).counterFor who + 1 := by
  rw [(claimArrives_sameFor s ch who target fade priority).stampCounter, arrive_stampCounter]

/-! ### RELEASE_LEVEL (R104) -/

theorem releaseLevel_refused {s : State} (h : s.accepts) {n : Byte} {fade : Half}
    (hbad : 15 < n.toNat ∨ fade.toNat = 65535) :
    exec (.releaseLevel n fade) s = .next (s.refuse (.releaseLevel n fade) .badField) := by
  refine exec_of_refused h (r := .releaseLevel n fade) ?_
  rw [State.takeRequest, State.takeReleaseLevel]
  split
  · rfl
  · next ch hn =>
    have hn := byteFin_val hn
    exact if_pos (show fade.toNat = 65535 by omega)

section
variable {s : State} (h : s.accepts) {n : Byte} {fade : Half} {ch : Chan} (hn : n.toNat = ch.val)
  (hf : fade.toNat ≠ 65535)
include h hn hf

theorem releaseLevel_slaved (hs : (s.mixCh ch).secondary = true) :
    exec (.releaseLevel n fade) s = .next (s.refuse (.releaseLevel n fade) .slaved) := by
  refine exec_of_refused h (r := .releaseLevel n fade) ?_
  rw [State.takeRequest, State.takeReleaseLevel, byteFin_eq_some hn]
  exact (if_neg hf).trans (if_pos hs)

theorem exec_releaseLevel (hs : (s.mixCh ch).secondary = false) :
    exec (.releaseLevel n fade) s
      = .next ((s.ack (.releaseLevel n fade)).releaseLink ch fade.toNat) := by
  refine exec_of_served h (r := .releaseLevel n fade) ?_
  rw [State.takeRequest, State.takeReleaseLevel, byteFin_eq_some hn]
  exact (if_neg hf).trans (if_neg (by rw [show ((s.serving _).mixCh ch).secondary = false from hs]; decide))

end

/-- A channel whose claim set is the former one is not settled (R97). -/
theorem settleChanged_self (s : State) (ch : Chan) : s.settleChanged s.mix.channels ch = s := by
  unfold State.settleChanged
  exact if_pos rfl

/-- A change that leaves every claim as it is changes nothing: no set differs, so no level is settled
(R97). -/
theorem updateClaims_eq_self {s : State} {f : Chan → Claimant → Claim → Option Claim}
    (h : ∀ ch, (s.mixCh ch).claims.update (f ch) = (s.mixCh ch).claims) : s.updateClaims f = s := by
  have hsame : s.claimsChanged f = s := by
    have hv : Vector.ofFn (fun ch =>
        { s.mix.channels[ch] with claims := (s.mix.channels[ch]).claims.update (f ch) })
          = s.mix.channels := by
      ext1 i hi
      rw [Vector.getElem_ofFn]
      exact congrArg (fun cs : ClaimSet => { s.mixCh ⟨i, hi⟩ with claims := cs }) (h ⟨i, hi⟩)
    rw [State.claimsChanged, hv]
  rw [updateClaims_eq, hsame]
  exact List.foldl_fixed' (settleChanged_self s) allChan

section
variable (s : State) (ch : Chan) (fade : Nat)

/-- The release reaches the LINK claim and no other claim of the channel. -/
theorem releaseLink_get (who : Claimant) :
    ((s.releaseLink ch fade).mixCh ch).claims.get who
      = if who = .link then ((s.mixCh ch).claims.get who).bind fun v => v.release fade
        else (s.mixCh ch).claims.get who := by
  rw [State.releaseLink, (updateClaims_mixCh _ _ ch).1, ClaimSet.get_update]
  by_cases h : who = .link
  · simp only [h, and_self, if_true]
  · simp only [h, and_false, if_false, Option.bind_fun_some]

theorem releaseLink_of_ne {c : Chan} (h : c ≠ ch) :
    (s.releaseLink ch fade).mixCh c = s.mixCh c ∧ (s.releaseLink ch fade).outCh c = s.outCh c := by
  have hv : (s.releaseLink ch fade).viewOf c = s.viewOf c := by
    rw [State.releaseLink, viewOf_updateClaims, ChannelView.updated]
    refine if_pos ?_
    simp only [h, false_and, if_false, ClaimSet.update_some]
  exact Prod.mk.inj hv

theorem releaseLink_stampCounter :
    ((s.releaseLink ch fade).mixCh ch).stampCounter = (s.mixCh ch).stampCounter := by
  rw [State.releaseLink, (updateClaims_mixCh _ _ ch).2]

theorem held_releaseLink : (s.releaseLink ch fade).mix.held = s.mix.held := by
  rw [State.releaseLink, held_updateClaims]

theorem releaseLink_of_none (h : (s.mixCh ch).claims.get .link = none) : s.releaseLink ch fade = s := by
  rw [State.releaseLink]
  refine updateClaims_eq_self fun c => ClaimSet.ext_get fun who => ?_
  rw [ClaimSet.get_update]
  by_cases hc : c = ch ∧ who = .link
  · rw [hc.1, hc.2, h, Option.bind_none]
  · simp only [hc, if_false, Option.bind_fun_some]

end

/-! ### Both -/

/-- Settles O30: the LINK claim arrives, and is released, as any claim. -/
theorem hostClaims : Obligations.HostClaims := by
  refine ⟨fun s n level priority fade h => ⟨setLevel_refused h, fun ch prio hn hp hf => ?_⟩,
    fun s n fade h => ⟨releaseLevel_refused h, fun ch hn hf => ?_⟩⟩
  · split
    case isTrue hs => exact setLevel_slaved h hn hp hf level hs
    case isFalse hs =>
      have hs : (s.mixCh ch).secondary = false := Bool.eq_false_iff.2 hs
      let u := s.ack (.setLevel n level fade priority)
      have hmix := mixOnly_claimArrives u ch .link level fade.toNat prio
      have hkeeps := keeps_claimArrives u ch .link level fade.toNat prio hs
      refine ⟨_, exec_setLevel h hn hp hf level hs, hmix.of_ack.1, hmix.of_ack.2, held_settle _ _,
        hkeeps.curves, fun k hk => claimArrives_of_ne u .link level fade.toNat prio hk,
        hkeeps.toKeeps.sameButDuty ch, ?_, claimArrives_stampCounter u ch .link level fade.toNat prio,
        fun p => ?_⟩
      · exact (claimArrives_get u ch .link .link level fade.toNat prio).trans (if_pos rfl)
      · exact (claimArrives_get u ch .link (.ctx p) level fade.toNat prio).trans (if_neg nofun)
  · split
    case isTrue hs => exact releaseLevel_slaved h hn hf hs
    case isFalse hs =>
      have hs : (s.mixCh ch).secondary = false := Bool.eq_false_iff.2 hs
      let u := s.ack (.releaseLevel n fade)
      have hmix := mixOnly_releaseLink u ch fade.toNat
      have hkeeps := keeps_releaseLink u ch fade.toNat
      refine ⟨u.releaseLink ch fade.toNat, exec_releaseLevel h hn hf hs, hmix.of_ack.1, hmix.of_ack.2,
        held_releaseLink u ch fade.toNat, hkeeps.curves, fun k hk => releaseLink_of_ne u ch fade.toNat hk,
        hkeeps.toKeeps.sameButDuty ch, releaseLink_stampCounter u ch fade.toNat, fun p => ?_, ?_,
        releaseLink_of_none u ch fade.toNat⟩
      · exact (releaseLink_get u ch fade.toNat (.ctx p)).trans (if_neg nofun)
      · refine ((releaseLink_get u ch fade.toNat .link).trans (if_pos rfl)).trans ?_
        show ((s.mixCh ch).claims.get .link).bind _ = _
        cases (s.mixCh ch).claims.get .link with
        | none => rfl
        | some v => rfl

end Sys2Proof.Machine
end

section
/-! The autostart GOs at the end of start-up: what they do to contexts, port and link (R32, R55, R65, R175). -/

namespace Sys2Proof.Machine

theorem ctx_arbitrate (s : State) (p : Ctx) : s.arbitrate.ctx p = s.ctx p := by
  rw [arbitrate_eq_modStore]
  rfl

/-! ### A pointer field that names a word (R32) -/

section
variable {field : Half} (he : ptrEnd field = false) (s : State) (p : Ctx)
include he

theorem enterFetch_of_bad (hi : ptrIndex field < 128) :
    s.enterFetch p field = (s.report p .fetch).enterFaulted p .badPointer (ptrIndex field) := by
  unfold State.enterFetch State.examineField Config.headerWords
  rw [if_neg (by rw [he]; exact Bool.false_ne_true), if_pos hi]

theorem enterFetch_of_fetch (hi : 128 ≤ ptrIndex field) :
    s.enterFetch p field = ((s.report p .fetch).modCtx p fun c => { c with
      activity := .fetch ⟨ptrIndex field, if ptrIndirect field then .linkStep else .probe, 0⟩
        false }).arbitrate :=
  examineField_of_fetch he hi (s.report p .fetch) p 0 false

/-- Of the context's record only the activity changes. -/
theorem enterFetch_ctx_same :
    (s.enterFetch p field).ctx p = { s.ctx p with activity := fieldActivity field 0 false } := by
  unfold fieldActivity
  rw [if_neg (by rw [he]; exact Bool.false_ne_true)]
  by_cases hi : ptrIndex field < 128
  · rw [enterFetch_of_bad he s p hi, enterFaulted_ctx, if_pos rfl, if_pos hi]
    rfl
  · rw [enterFetch_of_fetch he s p (not_lt.1 hi), if_neg hi, ctx_arbitrate, State.modCtx_ctx,
      if_pos rfl]
    rfl

/-- A field below the cue area is told to the host (R65). -/
theorem enterFetch_link_of_bad (hi : ptrIndex field < 128) : (s.enterFetch p field).link
    = (s.notify (.contextFault p .badPointer (ptrIndex field) (s.ctx p).current)).link := by
  rw [enterFetch_of_bad he s p hi, enterFaulted_link]
  exact notify_link_congr (s := s) (t := s.report p .fetch) rfl rfl _

theorem enterFetch_link_of_fetch (hi : 128 ≤ ptrIndex field) : (s.enterFetch p field).link = s.link := by
  rw [enterFetch_of_fetch he s p hi, arbitrate_link]
  rfl

theorem enterFetch_port_of_bad (hi : ptrIndex field < 128) :
    (s.enterFetch p field).store.port = s.store.port := by
  rw [enterFetch_of_bad he s p hi, enterFaulted_store]
  rfl

end

/-! ### One GO after another (R175) -/

/-- The context's home pointer asks for a read, where END is clear in it (R32). -/
abbrev State.homeFetches (s : State) (p : Ctx) : Bool := 128 ≤ ptrIndex (s.ctx p).home

/-- The read that the context's home pointer asks for (R32). -/
abbrev State.homeRead (s : State) (p : Ctx) : PortOp :=
  .fetch p (if ptrIndirect (s.ctx p).home then .linkStep else .probe) (ptrIndex (s.ctx p).home) true

/-- The notice of a home pointer below the cue area (R65). -/
abbrev State.homeFault (s : State) (p : Ctx) : OutFrame :=
  .notice 0 (.contextFault p .badPointer (ptrIndex (s.ctx p).home) (s.ctx p).current)

/-- What the autostart GOs of these contexts, taken in this order, have made of a part with a free port: each
context has followed its home pointer, the first that asks for a read has the port, and the others' faults
are told (R17, R32, R65, R175). -/
structure Autostarted (s t : State) (ps : List Ctx) : Prop extends PlayKeeps s t where
  samePosts : t.posts = s.posts
  channels : t.mix.channels = s.mix.channels
  output : t.out = s.out
  cells : t.cells = s.cells
  portSound : t.portSound
  ctx : ∀ p, t.ctx p = if p ∈ ps then
      { s.ctx p with activity := fieldActivity (s.ctx p).home 0 false } else s.ctx p
  faults : t.link.outbound
    = s.link.outbound ++ (ps.filter fun p => !s.homeFetches p).map s.homeFault
  port : t.store.port = (ps.find? s.homeFetches).map s.homeRead

section
variable {s t : State} {ps : List Ctx}

/-- Before the first GO only the order has been drawn. -/
theorem autostarted_nil {α : Type} (hs : s.portSound) (hp : s.store.port = none) (l : List α) :
    Autostarted s (s.anyOrder l).2 [] := by
  have hsound := portSound_anyOrder hs l
  have hkeeps := keeps_anyOrder s l
  rw [anyOrder_state] at hsound hkeeps ⊢
  exact { hkeeps with
    samePosts := rfl
    channels := rfl
    output := rfl
    cells := rfl
    portSound := hsound
    ctx := fun _ => rfl
    faults := (List.append_nil _).symm
    port := hp }

/-- There is a place for a notice behind those of four GOs. -/
theorem Autostarted.notices_lt (h : Autostarted s t ps) (hs : s.link.notices ≤ 1) (hps : ps.length ≤ 4) :
    t.link.notices < Config.noticeSlots := by
  have hle : t.link.notices ≤ s.link.notices + ps.length := by
    unfold Link.notices
    rw [h.faults, List.countP_append]
    refine Nat.add_le_add_left (List.countP_le_length.trans ?_) _
    rw [List.length_map]
    exact List.length_filter_le _ _
  have hslots : Config.noticeSlots = 24 := rfl
  omega

/-- The link has told the fault of a bad home pointer, and nothing where a read is asked for (R65). -/
theorem Autostarted.faults_enterFetch (h : Autostarted s t ps) {p : Ctx} (hp : t.ctx p = s.ctx p)
    (he : ptrEnd (s.ctx p).home = false) (hstamp : s.clk.stamp = 0)
    (hroom : t.link.notices < Config.noticeSlots) :
    (t.enterFetch p (s.ctx p).home).link.outbound
      = t.link.outbound ++ ([p].filter fun q => !s.homeFetches q).map s.homeFault := by
  by_cases hi : ptrIndex (s.ctx p).home < 128
  · have hfilter : ([p].filter fun q => !s.homeFetches q) = [p] := by simp [hi]
    rw [enterFetch_link_of_bad he t p hi, hfilter, hp]
    rcases State.notify_eq t (.contextFault p .badPointer (ptrIndex (s.ctx p).home) (s.ctx p).current)
      with ⟨hfull, -⟩ | ⟨-, b, hb⟩
    · exact absurd hroom (not_lt.2 hfull)
    · rw [hb, h.clk, hstamp]
      rfl
  · have hfilter : ([p].filter fun q => !s.homeFetches q) = [] := by simp [not_lt.1 hi]
    rw [enterFetch_link_of_fetch he t p (not_lt.1 hi), hfilter, List.map_nil, List.append_nil]

/-- A read that is asked for has the port if it is the first (R16, R17). -/
theorem Autostarted.port_enterFetch (h : Autostarted s t ps) {p : Ctx}
    (he : ptrEnd (s.ctx p).home = false) :
    (t.enterFetch p (s.ctx p).home).store.port
      = ((ps ++ [p]).find? s.homeFetches).map s.homeRead := by
  obtain ⟨-, -, -, -, -, -, hfree, hbusy⟩ := pointerFieldsAreFollowed t p (s.ctx p).home
  have hport := h.port
  rw [List.find?_append]
  cases hfind : ps.find? s.homeFetches with
  | some q =>
    rw [hfind] at hport
    rw [(hbusy _ hport).1, hport]
    rfl
  | none =>
    rw [hfind] at hport
    by_cases hi : ptrIndex (s.ctx p).home < 128
    · have hnone : [p].find? s.homeFetches = none := by simp [hi]
      rw [enterFetch_port_of_bad he t p hi, hport, hnone]
      rfl
    · have hsome : [p].find? s.homeFetches = some p := by simp [not_lt.1 hi]
      rw [(hfree he (not_lt.1 hi) h.portSound hport).1, hsome]
      rfl

/-- One more autostart GO. -/
theorem Autostarted.takeGo (h : Autostarted s t ps) {p : Ctx} (hp : p ∉ ps)
    (hidle : (s.ctx p).activity = .idle) (he : ptrEnd (s.ctx p).home = false) (hstamp : s.clk.stamp = 0)
    (hroom : t.link.notices < Config.noticeSlots) :
    Autostarted s (t.takeGo p none) (ps ++ [p]) := by
  have hctx : t.ctx p = s.ctx p := (h.ctx p).trans (if_neg hp)
  have hgo : t.takeGo p none = t.enterFetch p (s.ctx p).home := by
    unfold State.takeGo
    rw [hctx, hidle]
  have hphase := phaseStep_enterFetch p t (s.ctx p).home
  rw [hgo]
  exact { h.toPlayKeeps.trans hphase.toPlayKeeps with
    samePosts := hphase.samePosts.trans h.samePosts
    channels := hphase.channels.trans h.channels
    output := hphase.output.trans h.output
    cells := (enterFetch_cells t p _).trans h.cells
    portSound := portSound_enterFetch h.portSound p _
    ctx := fun q => by
      by_cases hq : q = p
      · rw [hq, enterFetch_ctx_same he t p, hctx, if_pos (List.mem_append_right _ (List.mem_singleton_self p))]
      · rw [hphase.ctx q hq, h.ctx q]
        exact if_congr (by simp [hq]) rfl rfl
    faults := by
      rw [h.faults_enterFetch hctx he hstamp hroom, h.faults, List.filter_append, List.map_append,
        List.append_assoc]
    port := h.port_enterFetch he }

/-- The GOs of the rest of the contexts. -/
theorem Autostarted.foldl (h : Autostarted s t ps) {rest : List Ctx} (hn : (ps ++ rest).Nodup)
    (hidle : ∀ p, (s.ctx p).activity = .idle) (he : ∀ p ∈ rest, ptrEnd (s.ctx p).home = false)
    (hstamp : s.clk.stamp = 0) (hs : s.link.notices ≤ 1) :
    Autostarted s (rest.foldl (fun u p => u.takeGo p none) t) (ps ++ rest) := by
  induction rest generalizing t ps with
  | nil => rwa [List.append_nil]
  | cons p rest ih =>
    have hlen : ps.length ≤ 4 := (List.nodup_append.1 hn).1.length_le_card.trans (by simp)
    have hp : p ∉ ps := fun hm => (List.nodup_append.1 hn).2.2 p hm p List.mem_cons_self rfl
    rw [List.append_cons] at hn ⊢
    exact ih (h.takeGo hp (hidle p) (he p List.mem_cons_self) hstamp (h.notices_lt hs hlen)) hn
      fun q hq => he q (List.mem_cons_of_mem p hq)

theorem mem_autostarts {p : Ctx} : p ∈ s.autostarts ↔ ptrEnd (s.ctx p).home = false := by
  have hall : p ∈ allCtx := by revert p; decide
  simp [State.autostarts, hall]

/-- The autostart, with the order drawn (R175; log 9). -/
theorem autostarted_autostart (hsound : s.portSound) (hport : s.store.port = none)
    (hidle : ∀ p, (s.ctx p).activity = .idle) (hstamp : s.clk.stamp = 0) (hs : s.link.notices ≤ 1) :
    ∃ ps, (∀ p, p ∈ ps ↔ ptrEnd (s.ctx p).home = false) ∧ Autostarted s s.autostart ps := by
  have hperm := anyOrder_perm s s.autostarts
  have hmem : ∀ p, p ∈ (s.anyOrder s.autostarts).1 ↔ ptrEnd (s.ctx p).home = false := fun p =>
    hperm.mem_iff.trans mem_autostarts
  have hn : (s.anyOrder s.autostarts).1.Nodup := hperm.nodup_iff.2 (List.Nodup.filter _ (by decide))
  exact ⟨_, hmem, (autostarted_nil hsound hport s.autostarts).foldl hn hidle (fun p hp => (hmem p).1 hp)
    hstamp hs⟩

end

/-! ### What the contexts, the port and the link show -/

theorem mem_homeFaults {s : State} {ps : List Ctx}
    (hps : ∀ p, p ∈ ps ↔ ptrEnd (s.ctx p).home = false) (f : OutFrame) :
    (f ∈ (ps.filter fun p => !s.homeFetches p).map s.homeFault)
      ↔ ∃ p : Ctx, ptrEnd (s.ctx p).home = false ∧ ptrIndex (s.ctx p).home < 128
        ∧ f = s.homeFault p := by
  simp only [List.mem_map, List.mem_filter, hps, Bool.not_eq_true', decide_eq_false_iff_not, not_le,
    and_assoc, eq_comm (a := f)]

section
variable {s t : State} {ps : List Ctx} (h : Autostarted s t ps)
  (hps : ∀ p, p ∈ ps ↔ ptrEnd (s.ctx p).home = false)
include h hps

theorem Autostarted.hasFollowed (hidle : ∀ p, (s.ctx p).activity = .idle) (p : Ctx) :
    t.hasFollowed p (s.ctx p).home := by
  unfold State.hasFollowed
  rw [h.ctx p]
  by_cases hp : p ∈ ps
  · rw [if_pos hp]
    rfl
  · rw [if_neg hp, if_pos (Bool.not_eq_false _ ▸ fun he => hp ((hps p).2 he)), hidle p]

/-- The first that asks for a read has the port, and it is free where none does (R17). -/
theorem Autostarted.port_cases :
    if ∃ p : Ctx, ptrEnd (s.ctx p).home = false ∧ 128 ≤ ptrIndex (s.ctx p).home then
      ∃ p : Ctx, ptrEnd (s.ctx p).home = false ∧ 128 ≤ ptrIndex (s.ctx p).home
        ∧ t.store.port = some (s.homeRead p)
    else t.store.port = none := by
  have hport := h.port
  cases hfind : ps.find? s.homeFetches with
  | some p =>
    have he := (hps p).1 (List.mem_of_find?_eq_some hfind)
    have hi : 128 ≤ ptrIndex (s.ctx p).home := by simpa using List.find?_some hfind
    rw [if_pos ⟨p, he, hi⟩]
    exact ⟨p, he, hi, by rw [hport, hfind]; rfl⟩
  | none =>
    rw [if_neg fun ⟨p, he, hi⟩ => List.find?_eq_none.1 hfind p ((hps p).2 he) (decide_eq_true hi), hport,
      hfind]
    rfl

end

end Sys2Proof.Machine
end

section
/-! The end of start-up (R101, R108, R126, R173 to R175). -/

namespace Sys2Proof.Machine

/-! ### The curves (R100, R101, R173) -/

/-- A channel whose level 0 has been translated for the first time (R173). -/
def ChannelView.started (duty : Fin 4 → Byte → Half) (v : ChannelView) : ChannelView :=
  let d := if v.1.secondary then 0 else duty v.1.curve 0
  ({ v.1 with dutyLast := d }, { v.2 with buffered := { v.2.buffered with duty := d } })

section
variable {duty : Fin 4 → Byte → Half} {v : ChannelView}

/-- With level and duty 0 on both sides a translation leaves the first duty. -/
theorem ChannelView.translated_eq_started (hl : v.1.level = 0) (hd : v.1.dutyLast = 0)
    (ho : v.2.buffered.duty = 0) : v.translated duty = v.started duty := by
  have hself : ({ v.1 with dutyLast := 0 }, { v.2 with buffered := { v.2.buffered with duty := 0 } }) = v :=
    Prod.ext (by rw [← hd]) (by rw [← ho])
  unfold ChannelView.translated ChannelView.started
  rw [hl, hd]
  by_cases hs : v.1.secondary = true
  · rw [if_pos (.inl hs), if_pos hs]
    exact hself.symm
  · by_cases hz : duty v.1.curve 0 = 0
    · rw [if_pos (.inr hz), if_neg hs, hz]
      exact hself.symm
    · rw [if_neg fun h => h.elim hs hz, if_neg hs]

/-- A second translation finds the duty handed. -/
theorem ChannelView.translated_translated (v : ChannelView) :
    (v.translated duty).translated duty = v.translated duty := by
  by_cases h : v.1.secondary = true ∨ duty v.1.curve v.1.level = v.1.dutyLast
  · have hsame : v.translated duty = v := if_pos h
    rw [hsame, hsame]
  · unfold ChannelView.translated
    rw [if_neg h]
    exact if_pos (.inr rfl)

end

theorem curves_startCurves (s : State) : s.startCurves.mix.curves = loadedSlots s.store.cells := by
  rw [State.startCurves, State.translateAll]
  exact foldl_keeps (P := fun t => t.mix.curves = loadedSlots s.store.cells)
    (fun t ch ht => (curves_translate t ch).trans ht) _ (curves_fillCurves s _)

theorem sources_startCurves (s : State) : s.startCurves.out.sources = s.out.sources := by
  have htranslate : ∀ (t : State) (ch : Chan), t.out.sources = s.out.sources →
      (t.translate ch).out.sources = s.out.sources := fun t ch ht => (keeps_translate t ch).sources.trans ht
  rw [State.startCurves, State.translateAll]
  exact foldl_keeps htranslate _ (foldl_keeps htranslate _ rfl)

/-- Whichever curve a channel has, its level has been translated through it once the RAM is filled. -/
theorem viewOf_startCurves {s : State} (h : s.Still) (ch : Chan) :
    s.startCurves.viewOf ch = (s.viewOf ch).started s.startCurves.mix.duty := by
  obtain ⟨-, hlevel, hlast, hduty⟩ := h.channels ch
  have hfill : s.startCurves.mix.duty = (s.fillCurves (loadedSlots s.store.cells)).mix.duty :=
    duty_congr ((curves_startCurves s).trans (curves_fillCurves s _).symm)
  rw [← ChannelView.translated_eq_started hlevel hlast hduty, hfill, State.startCurves, State.translateAll,
    viewOf_foldl_translate allChan_nodup, if_pos (mem_allChan ch), viewOf_fillCurves]
  split
  · exact ChannelView.translated_translated _
  · rfl

/-- What a channel's two records are, seen as one. -/
theorem records_of_viewOf {s : State} {ch : Chan} {v : ChannelView} (h : s.viewOf ch = v) :
    s.mixCh ch = v.1 ∧ s.outCh ch = v.2 := by
  rw [← h]
  exact ⟨rfl, rfl⟩

theorem startOutput_sources (s : State) : s.startOutput.out.sources = s.out.sources := rfl

/-! ### STARTED, RUNNING and the output fields (R126, R174) -/

/-- The part at the end of start-up, before the autostart (R173, R174). -/
def State.started (s : State) (valid : Bool) : State := (s.startCurves.startRunning valid).startOutput

/-- All that the end of start-up changes before the autostart. -/
theorem started_eq (s : State) (valid : Bool) : s.started valid =
    { s with
      mix := s.startCurves.mix
      out := s.startCurves.startOutput.out
      link := (s.notify (.started s.clk.cause valid s.store.lockActive)).link
      clk := { s.clk with stage := .running, intervalCode := s.clk.tickCode } } := by
  obtain ⟨hmix⟩ := mixOnly_startCurves s
  unfold State.started State.startRunning
  generalize s.startCurves = u at hmix ⊢
  have hlink : u.link = s.link := by rw [hmix]
  have hclk : u.clk = s.clk := by rw [hmix]
  have hstore : u.store = s.store := by rw [hmix]
  rw [hclk, hstore, notify_of_same hlink hclk, hmix]
  rfl

section
variable (s : State) (valid : Bool)

theorem started_mix : (s.started valid).mix = s.startCurves.mix := by rw [started_eq]
theorem started_out : (s.started valid).out = s.startCurves.startOutput.out := by rw [started_eq]
theorem started_clk : (s.started valid).clk
    = { s.clk with stage := .running, intervalCode := s.clk.tickCode } := by rw [started_eq]
theorem started_store : (s.started valid).store = s.store := by rw [started_eq]
theorem started_trig : (s.started valid).trig = s.trig := by rw [started_eq]
theorem started_cells : (s.started valid).cells = s.cells := by rw [started_eq]
theorem started_posts : (s.started valid).posts = s.posts := by rw [started_eq]
theorem started_owed : (s.started valid).owed = s.owed := by rw [started_eq]
theorem started_contexts : (s.started valid).contexts = s.contexts := by rw [started_eq]
theorem started_ctx (p : Ctx) : (s.started valid).ctx p = s.ctx p := by
  rw [State.ctx, started_contexts, State.ctx]
theorem started_link : (s.started valid).link
    = (s.notify (.started s.clk.cause valid s.store.lockActive)).link := by rw [started_eq]

theorem started_service : (s.started valid).link.service = s.link.service := by
  rw [started_link, (keeps_notify s _).service]

theorem started_buffered : (s.started valid).link.buffered = s.link.buffered := by
  rw [started_link, (keeps_notify s _).buffered]

variable {s} {valid}

theorem portSound_started (h : s.portSound) : (s.started valid).portSound :=
  portSound_of_same h (by rw [started_store]) (by rw [started_store]) (by rw [started_store]; exact id)
    fun p => .inl (by rw [started_ctx])

/-- STARTED is queued before any other notice (R174). -/
theorem started_outbound (h : s.Still) : (s.started valid).link.outbound
    = s.link.outbound ++ [.notice 0 (.started s.clk.cause valid s.store.lockActive)] := by
  rw [started_link]
  rcases State.notify_eq s (.started s.clk.cause valid s.store.lockActive) with ⟨hfull, -⟩ | ⟨-, b, hb⟩
  · rw [h.notices] at hfull
    exact absurd hfull (by decide)
  · rw [hb, h.stamp]
    rfl

theorem started_notices (h : s.Still) : (s.started valid).link.notices ≤ 1 := by
  have hn := h.notices
  unfold Link.notices at hn ⊢
  rw [started_outbound h, List.countP_append, hn]
  rfl

theorem started_mixCh (h : s.Still) (ch : Chan) : (s.started valid).mixCh ch
    = { s.mixCh ch with dutyLast := if (s.mixCh ch).secondary then 0
                                    else (s.started valid).mix.duty (s.mixCh ch).curve 0 } := by
  have hsame : (s.started valid).mixCh ch = s.startCurves.mixCh ch := by
    rw [State.mixCh, started_mix, State.mixCh]
  rw [hsame, started_mix, (records_of_viewOf (viewOf_startCurves h ch)).1]
  generalize s.startCurves.mix.duty = duty
  rfl

/-- The loaded fields come into force with the first duty (R126). -/
theorem started_outCh (h : s.Still) (ch : Chan) :
    let cfg := fun ch => (s.outCh ch).loaded.getD ChannelConfig.default
    let settings : OutSettings :=
      { mode := (cfg ch).mode, period := (cfg ch).period, deadTime := (cfg ch).deadTime,
        duty := ((s.started valid).mixCh ch).dutyLast }
    (s.started valid).outCh ch = { s.outCh ch with
      buffered := settings, active := settings, safe := (cfg ch).safe, mask := (cfg ch).mask,
      loaded := none, paired := isOdd ch && (cfg (evenPartner ch)).mode == .pair } := by
  have hsame : (s.started valid).outCh ch = s.startCurves.startOutput.outCh ch := by
    rw [State.outCh, started_out, State.outCh]
  have hout := fun c => (records_of_viewOf (viewOf_startCurves h c)).2
  rw [hsame, startOutput_outCh, hout, hout, started_mixCh h, started_mix]
  generalize s.startCurves.mix.duty = duty
  rfl

theorem started_sources : (s.started valid).out.sources = s.out.sources := by
  rw [started_out, startOutput_sources, sources_startCurves]

end

/-! ### The whole step -/

/-- The end of start-up with no request buffered: the autostart examines no delivery, since none is queued
(R155, R174, R175, R195). -/
theorem completeStartUp_eq {s : State} (h : s.Still) (valid : Bool) (hb : s.link.buffered = none) :
    s.completeStartUp valid = (s.started valid).autostart := by
  have hkeeps : PlayKeeps (s.started valid) (s.started valid).autostart := by
    unfold State.autostart
    exact (keeps_anyOrder _ _).trans (.foldl (fun t p => keeps_takeGo t p none) _ _)
  have hend : s.endStartUp valid = (s.started valid).autostart := by
    have hqueue : (s.started valid).autostart.trig.queue = [] := by rw [hkeeps.trig, started_trig, h.queue]
    exact examine_of_empty hqueue
  have hmovable : (s.endStartUp valid).movable = none := by
    unfold State.movable
    rw [hend, hkeeps.buffered, started_buffered, hb, ite_self]
  unfold State.completeStartUp
  dsimp only
  rw [hmovable, hend]

theorem exec_startUpCurveLoadComplete {s : State} {valid : Bool} (h : s.clk.stage = .loadingCurves valid) :
    exec .startUpCurveLoadComplete s = .next (s.completeStartUp valid) := by
  show execStartUpCurveLoadComplete s = _
  rw [execStartUpCurveLoadComplete, h]

/-- Settles O52: the curves and the output fields first, then STARTED and RUNNING, then the autostart GOs. -/
theorem startUpEnds : Obligations.StartUpEnds := by
  intro s valid hstage hquiet hsound hbuf cfg
  have h : s.Still := (quietBeforeRunning_iff s).1 hquiet (isRunning_of_stage hstage (by simp))
  obtain ⟨u, hu⟩ : ∃ u, u = s.started valid := ⟨_, rfl⟩
  have hctx : ∀ p, u.ctx p = s.ctx p := fun p => by rw [hu, started_ctx]
  have hidle : ∀ p, (u.ctx p).activity = .idle := fun p => by rw [hctx, h.activity]
  obtain ⟨ps, hps, hauto⟩ := autostarted_autostart (s := u) (hu ▸ portSound_started hsound)
    (by rw [hu, started_store, h.port]) hidle (by rw [hu, started_clk]; exact h.stamp)
    (hu ▸ started_notices h)
  have hmixCh : ∀ ch, u.autostart.mixCh ch = u.mixCh ch := fun ch => by
    rw [State.mixCh, State.mixCh, hauto.channels]
  have hduty : u.autostart.mix.duty = u.mix.duty := duty_congr hauto.curves
  have hfollowed := hauto.hasFollowed hps hidle
  have hfaults := mem_homeFaults hps
  have hport := hauto.port_cases hps
  have harrivals : ∀ p, (u.autostart.ctx p).arrivals = (u.ctx p).arrivals := fun p => by
    rw [hauto.ctx p]
    split <;> rfl
  simp only [State.homeFault, State.homeRead, hctx] at hfollowed hfaults hport harrivals
  refine ⟨u.autostart, ?exec, ?clk, ?curves, fun ch => ?mixCh, fun ch => ?outCh, ?sources,
    fun p => ⟨hfollowed p, ?home, ?report, harrivals p⟩, ⟨_, ?outbound, hfaults⟩, ?service, ?buffered,
    hport, fun a => ?array, ?mask, ?lock, ?linkOp, ?trig, ?cells, ?posts, ?owed⟩
  case exec => rw [hu, ← completeStartUp_eq h valid hbuf, exec_startUpCurveLoadComplete hstage]
  case clk => rw [hauto.clk, hu, started_clk]
  case curves => rw [hauto.curves, hu, started_mix, curves_startCurves]
  case mixCh => rw [hmixCh, hduty, hu, started_mixCh h]
  case outCh => rw [State.outCh, hauto.output, hmixCh, hu]; exact started_outCh h ch
  case sources => rw [hauto.sources, hu, started_sources]
  case home => rw [hauto.home, hctx]
  case report => rw [hauto.report, hctx]
  case outbound => rw [hauto.faults, hu, started_outbound h, List.append_assoc]; rfl
  case service => rw [hauto.service, hu, started_service]
  case buffered => rw [hauto.buffered, hu, started_buffered, hbuf]
  case array => rw [hauto.array, hu, started_store]
  case mask => rw [hauto.mask, hu, started_store]
  case lock => rw [hauto.lock, hu, started_store]
  case linkOp => rw [hauto.linkOp, hu, started_store]
  case trig => rw [hauto.trig, hu, started_trig]
  case cells => rw [hauto.cells, hu, started_cells]
  case posts => rw [hauto.samePosts, hu, started_posts]
  case owed => rw [hauto.owed, hu, started_owed]

end Sys2Proof.Machine
end

section
/-! The output pins (R111, R112, R115, R116, R121), and how they follow the duty (O34). -/

namespace Sys2Proof.Machine

/-! ### Which record drives a pin -/

/-- In a reset and in STARTING no pin is active (R126, R171). -/
theorem pinActive_of_not_running {s : State} (h : s.isRunning = false) (ch : Chan) (u : Nat) :
    s.pinActive ch u = false := by
  rw [State.pinActive, h]
  rfl

/-- An even channel is never paired (R115). -/
theorem paired_of_even {s : State} (h : s.pairsSound) {ch : Chan} (he : isOdd ch = false) :
    (s.outCh ch).paired = false := by
  rw [h.2, he, Bool.false_and]

/-- The partner of an even channel whose active mode is PAIR is paired (R115). -/
theorem paired_oddPartner {s : State} (h : s.pairsSound) {even : Chan} (he : isOdd even = false)
    (hm : (s.outCh even).active.mode = .pair) : (s.outCh (oddPartner even)).paired = true := by
  rw [h.2, isOdd_oddPartner, evenPartner_oddPartner he, hm]
  rfl

section
variable {s : State} (hrun : s.isRunning = true)
include hrun

/-- Outside a pair a channel drives its own pin (R111, R112, R121). -/
theorem pinActive_own {ch : Chan} (hp : (s.outCh ch).paired = false)
    (hm : (s.outCh ch).active.mode ≠ .pair) (u : Nat) :
    s.pinActive ch u = (s.outCh ch).ownPin u := by
  have hforms : (s.outCh ch).formsPair = false := beq_eq_false_iff_ne.2 hm
  simp [State.pinActive, hrun, hp, hforms]

section
variable {even : Chan} (he : isOdd even = false) (hm : (s.outCh even).active.mode = .pair)
include he hm

/-- The even pin of a formed pair (R116, R121). -/
theorem pinActive_even (u : Nat) :
    s.pinActive even u = (!(s.outCh even).shutdown && (s.outCh even).active.evenAt u) := by
  have hforms : (s.outCh even).formsPair = true := beq_iff_eq.2 hm
  simp [State.pinActive, hrun, he, hforms]

/-- The odd pin of a formed pair, which its even channel drives (R115, R116, R121). -/
theorem pinActive_odd (hsound : s.pairsSound) (u : Nat) :
    s.pinActive (oddPartner even) u = (!(s.outCh even).shutdown && (s.outCh even).active.oddAt u) := by
  simp [State.pinActive, hrun, isOdd_oddPartner, paired_oddPartner hsound he hm,
    evenPartner_oddPartner he]

end

end

/-! ### On-times (R110, R111) -/

theorem onTime_zero (code : Fin 4) : onTime code 0 = 0 := Nat.zero_div _

theorem onTime_full (code : Fin 4) : onTime code 0xFFFF = periodUnits code :=
  Nat.mul_div_cancel _ (by decide)

theorem onTime_le_periodUnits (code : Fin 4) (duty : Half) : onTime code duty ≤ periodUnits code :=
  Nat.div_le_of_le_mul <| by
    rw [Nat.mul_comm]
    exact Nat.mul_le_mul_right _ (Nat.le_of_lt_succ duty.isLt)

/-! ### The waveforms (R111, R116) -/

theorem evenAt_iff (a : OutSettings) (u : Nat) :
    a.evenAt u = true ↔ a.deadTime.toNat ≤ u ∧ u < onTime a.period a.duty := by
  simp [OutSettings.evenAt]

theorem oddAt_iff (a : OutSettings) (u : Nat) :
    a.oddAt u = true ↔ onTime a.period a.duty + a.deadTime.toNat ≤ u ∧ u < periodUnits a.period := by
  simp [OutSettings.oddAt]

/-- A formed pair's pins at a position of the period (R116): the two pulses, the dead time between them,
and what it leaves of them. -/
theorem pairWaveforms (a : OutSettings) {u : Nat} (hu : u < periodUnits a.period) :
    let t := onTime a.period a.duty
    let d := a.deadTime.toNat
    (a.evenAt u = true ↔ d ≤ u ∧ u < t) ∧ (a.oddAt u = true ↔ t + d ≤ u)
      ∧ ¬(a.evenAt u = true ∧ a.oddAt u = true)
      ∧ (t ≤ d → a.evenAt u = false)
      ∧ (periodUnits a.period - t ≤ d → a.oddAt u = false)
      ∧ (d = 0 → a.oddAt u = !a.evenAt u) := by
  intro t d
  have heven : a.evenAt u = true ↔ d ≤ u ∧ u < t := evenAt_iff a u
  have hodd : a.oddAt u = true ↔ t + d ≤ u := (oddAt_iff a u).trans (and_iff_left hu)
  refine ⟨heven, hodd, ?apart, ?evenSuppressed, ?oddSuppressed, ?complement⟩
  case apart => rw [heven, hodd]; omega
  case evenSuppressed => intro h; rw [← Bool.not_eq_true, heven]; omega
  case oddSuppressed => intro h; rw [← Bool.not_eq_true, hodd]; omega
  case complement => intro h; rw [Bool.eq_iff_iff, Bool.not_eq_true', ← Bool.not_eq_true, heven, hodd]; omega

/-- Settles O34. -/
theorem pinsFollowTheDuty : Obligations.PinsFollowTheDuty := by
  refine ⟨⟨fun code duty => ⟨?_, onTime_zero code, onTime_full code⟩, fun s ch u hrun hp hs hm => ?_,
    fun duty hd => ?_⟩, fun s even hrun hsound he hm hs u hu => ?_⟩
  · fin_cases code <;> rfl
  · rw [pinActive_own hrun hp (by rw [hm]; decide), OutChannel.ownPin, hs, hm]
    rfl
  · exact Nat.div_eq_of_lt (show 800 * duty.toNat < 65535 by omega)
  · have heven := pinActive_even hrun he hm u
    have hodd := pinActive_odd hrun he hm hsound u
    rw [hs, Bool.not_false, Bool.true_and] at heven hodd
    rw [heven, hodd]
    exact pairWaveforms _ hu

end Sys2Proof.Machine
end

section
/-! Period starts and SHUTDOWN at the pins (R110, R112, R115, R117, R121, R122, O38). -/

namespace Sys2Proof.Machine

/-- A period start reaches the channels of the Output Stage alone (R110). -/
theorem startPeriod_frame (s : State) (ch : Chan) : { s.startPeriod ch with out := s.out } = s
    ∧ (s.startPeriod ch).out.sources = s.out.sources := by
  unfold State.startPeriod
  cases isOdd ch with
  | true => exact ⟨rfl, rfl⟩
  | false => exact ⟨rfl, rfl⟩

theorem exec_periodStart {s : State} {ch : Chan} (hrun : s.isRunning = true)
    (hp : (s.outCh ch).paired = false) : exec (.periodStart ch) s = .next (s.startPeriod ch) :=
  if_pos ⟨hrun, hp⟩

/-- A channel that is neither the starting one nor its odd partner (R115). -/
theorem startPeriod_outCh_of_ne (s : State) {ch k : Chan} (hk : k ≠ ch)
    (ho : isOdd ch = true ∨ k ≠ oddPartner ch) : (s.startPeriod ch).outCh k = s.outCh k := by
  rw [startPeriod_outCh, if_neg hk, if_neg]
  rintro ⟨heven, hpartner⟩
  rcases ho with ho | ho
  · rw [ho] at heven
    cases heven
  · exact ho hpartner

/-- The odd partner of an even channel whose period starts (R115, R117). -/
theorem startPeriod_oddPartner (s : State) {ch : Chan} (he : isOdd ch = false) :
    (s.startPeriod ch).outCh (oddPartner ch)
      = (s.outCh (oddPartner ch)).followPair (s.outCh ch).buffered.mode s.out := by
  rw [startPeriod_outCh, if_neg (oddPartner_ne he), if_pos ⟨he, rfl⟩]

/-- In SHUTDOWN a pin outside a pair shows its safe state (R121). -/
theorem ownPin_of_shutdown {c : OutChannel} (h : c.shutdown = true) (u : Nat) : c.ownPin u = c.safe :=
  if_pos h

/-- In OFF outside SHUTDOWN a pin is inactive (R112). -/
theorem ownPin_of_off {c : OutChannel} (hm : c.active.mode = .off) (h : c.shutdown = false) (u : Nat) :
    c.ownPin u = false := by
  rw [OutChannel.ownPin, h, hm]
  rfl

/-- Settles O38. -/
theorem periodsAndShutdown : Obligations.PeriodsAndShutdown := by
  refine ⟨fun s ch hrun hp => ?_, fun s ch u hrun hsound => ⟨fun hp hm hs => ?_, fun hp hm hs => ?_,
    fun he hm hs => ?_⟩, fun s ch u hrun => pinActive_of_not_running hrun ch u⟩
  · obtain ⟨hframe, hsources⟩ := startPeriod_frame s ch
    refine ⟨s.startPeriod ch, exec_periodStart hrun hp, hframe, hsources, ?_,
      fun k hk => startPeriod_outCh_of_ne s hk, fun he => ?_⟩
    · rw [startPeriod_outCh, if_pos rfl, OutChannel.startPeriod, namesAsserted_eq]
    · rw [startPeriod_oddPartner s he, OutChannel.followPair]
      simp only [OutChannel.startPeriod, namesAsserted_eq]
  · rw [pinActive_own hrun hp hm, ownPin_of_shutdown hs]
  · rw [pinActive_own hrun hp (by rw [hm]; decide), ownPin_of_off hm hs]
  · rw [pinActive_even hrun he hm, pinActive_odd hrun he hm hsound, hs]
    exact ⟨rfl, rfl⟩

end Sys2Proof.Machine
end

section
/-! Fault sources: what a new record does (R119 to R122), and what gives a source one: a change of its
input (R118, R119), CLEAR_FAULT (R124) and CONFIG_FAULT (R125) (O37). -/

namespace Sys2Proof.Machine

/-! ### A new record (R119 to R122) -/

/-- A source's new record alone. -/
def State.withSource (s : State) (k : Fin 2) (f : FaultSource) : State :=
  { s with out := { s.out with sources := s.out.sources.set k f } }

/-- The Output Stage with a source's new record, and on an assertion with the channels whose mask names the
source in SHUTDOWN (R121). -/
def Output.shutBy (o : Output) (k : Fin 2) (f : FaultSource) : Output where
  channels := if f.asserted then
      Vector.ofFn fun ch =>
        if (o.channels[ch]).mask.getLsbD k.val then { o.channels[ch] with shutdown := true }
        else o.channels[ch]
    else o.channels
  sources := o.sources.set k f

section
variable (o : Output) (k : Fin 2) (f : FaultSource) (ch : Chan)

theorem shutBy_channel : (o.shutBy k f).channels[ch] = { o.channels[ch] with
    shutdown := (o.channels[ch]).shutdown || ((o.channels[ch]).mask.getLsbD k.val && f.asserted) } := by
  unfold Output.shutBy
  cases f.asserted with
  | false => rw [Bool.and_false, Bool.or_false]; rfl
  | true =>
    rw [Bool.and_true]
    refine (Vector.getElem_ofFn ch.isLt).trans ?_
    show (if (o.channels[ch]).mask.getLsbD k.val then _ else o.channels[ch]) = _
    cases (o.channels[ch]).mask.getLsbD k.val with
    | true => rw [Bool.or_true]; rfl
    | false => rw [Bool.or_false]; rfl

/-- A channel's bit in the set of a FAULT notice (R120, R122). -/
theorem naming_shutBy :
    ((o.shutBy k f).naming k).getLsbD ch.val = (o.channels[ch]).mask.getLsbD k.val := by
  rw [Output.naming, getLsbD_chanSet, shutBy_channel]

end

section
variable (s : State) (k : Fin 2) (f : FaultSource)

theorem setSource_of_same (h : f.asserted = (s.out.sources[k]).asserted) :
    s.setSource k f = s.withSource k f := if_pos h

theorem setSource_of_changed (h : f.asserted ≠ (s.out.sources[k]).asserted) :
    s.setSource k f = { s with
      out := s.out.shutBy k f
      link := (s.notify (.fault k f.asserted ((s.out.shutBy k f).naming k))).link } := by
  have hshut : (if f.asserted then
      (s.withSource k f).mapOut fun _ c => if c.mask.getLsbD k.val then { c with shutdown := true } else c
      else s.withSource k f) = { s with out := s.out.shutBy k f } := by
    unfold Output.shutBy
    cases f.asserted with
    | true => rfl
    | false => rfl
  calc s.setSource k f
    _ = _ := if_neg h
    _ = State.notify { s with out := s.out.shutBy k f }
          (.fault k f.asserted ((s.out.shutBy k f).naming k)) :=
      congrArg (fun u : State => u.notify (.fault k f.asserted (u.out.naming k))) hshut
    _ = _ := notify_of_same (s := s) (u := { s with out := s.out.shutBy k f }) rfl rfl _

/-- Where the asserted state changes, it is an assertion exactly where it was not asserted before. -/
theorem setSource_outCh (ch : Chan) :
    (s.setSource k f).outCh ch = { s.outCh ch with shutdown := (s.outCh ch).shutdown
      || ((s.outCh ch).mask.getLsbD k.val && f.asserted && !(s.out.sources[k]).asserted) } := by
  by_cases h : f.asserted = (s.out.sources[k]).asserted
  · rw [setSource_of_same s k f h, h, Bool.and_assoc, Bool.and_not_self, Bool.and_false, Bool.or_false]
    rfl
  · have hwas : (!(s.out.sources[k]).asserted) = f.asserted := (Bool.eq_not_of_ne h).symm
    rw [setSource_of_changed s k f h, hwas, Bool.and_assoc, Bool.and_self]
    exact shutBy_channel s.out k f ch

/-- A new record reaches the sources, the shutdown states and the link alone (R119 to R121). -/
theorem setSource_frame : (s.setSource k f).out.sources = s.out.sources.set k f
    ∧ { s.setSource k f with out := s.out, link := s.link } = s := by
  by_cases h : f.asserted = (s.out.sources[k]).asserted
  · rw [setSource_of_same s k f h]
    exact ⟨rfl, rfl⟩
  · rw [setSource_of_changed s k f h]
    exact ⟨rfl, rfl⟩

end

/-! ### The records (R118, R119, R124, R125) -/

section
variable (f : FaultSource)

/-- A FOLLOW source takes the level alone, a LATCH source latches an active one (R118, R119). -/
theorem inputChange_eq (active : Bool) :
    f.inputChange active = { f with input := active, latch := f.latch || (f.mode == .latch && active) } := by
  obtain ⟨mode, latch, input⟩ := f
  cases mode with
  | latch => rfl
  | follow => exact congrArg (FaultSource.mk .follow · active) (Bool.or_false latch).symm

/-- Only a LATCH source has a latch to clear (R124). -/
theorem clearLatch_eq : f.clearLatch = { f with latch := f.latch && f.mode != .latch } := by
  obtain ⟨mode, latch, input⟩ := f
  cases mode with
  | latch => exact congrArg (FaultSource.mk .latch · input) (Bool.and_false latch).symm
  | follow => exact congrArg (FaultSource.mk .follow · input) (Bool.and_true latch).symm

/-- A change to FOLLOW drops the latch, a change to LATCH latches an active input (R125). -/
theorem setMode_eq :
    f.setMode .follow = (if f.mode = .follow then f else { f with mode := .follow, latch := false })
      ∧ f.setMode .latch = (if f.mode = .latch then f else { f with mode := .latch, latch := f.input }) := by
  obtain ⟨mode, latch, input⟩ := f
  cases mode with
  | latch => exact ⟨rfl, rfl⟩
  | follow => exact ⟨rfl, rfl⟩

end

theorem faultModeOf_eq (mode : Byte) : faultModeOf mode =
    if mode.toNat = 0 then some .latch else if mode.toNat = 1 then some .follow else none := by
  unfold faultModeOf
  split
  · next h => rw [if_pos h]
  · next h => rw [if_neg (by omega), if_pos h]
  · next h0 h1 => rw [if_neg h0, if_neg h1]

/-! ### The commands -/

theorem exec_faultInputChange {s : State} {k : Fin 2} {active : Bool} (hrun : s.isRunning = true)
    (h : (s.out.sources[k]).input ≠ active) : exec (.faultInputChange k active) s
      = .next (s.setSource k ((s.out.sources[k]).inputChange active)) :=
  if_pos ⟨hrun, h⟩

section
variable {s : State} (h : s.accepts) {n : Byte}
include h

/-- CLEAR_FAULT and CONFIG_FAULT of a source that is not there. -/
theorem faultRequests_refused (hn : 1 < n.toNat) (mode : Byte) :
    exec (.clearFault n) s = .next (s.refuse (.clearFault n) .badField)
      ∧ exec (.configFault n mode) s = .next (s.refuse (.configFault n mode) .badField) := by
  have hb : byteFin 2 n = none := byteFin_eq_none hn
  refine ⟨exec_of_refused h (r := .clearFault n) ?_, exec_of_refused h (r := .configFault n mode) ?_⟩
  · rw [State.takeRequest, State.takeClearFault, hb]
  · rw [State.takeRequest, State.takeConfigFault, hb]

theorem configFault_refused (n : Byte) {mode : Byte} (hm : 1 < mode.toNat) :
    exec (.configFault n mode) s = .next (s.refuse (.configFault n mode) .badField) := by
  refine exec_of_refused h (r := .configFault n mode) ?_
  have hnone : faultModeOf mode = none := by rw [faultModeOf_eq, if_neg (by omega), if_neg (by omega)]
  rw [State.takeRequest, State.takeConfigFault, hnone]
  cases byteFin 2 n <;> rfl

variable {k : Fin 2} (hn : n.toNat = k.val)
include hn

theorem exec_clearFault : exec (.clearFault n) s = .next
    (if (s.out.sources[k]).input then s.refuse (.clearFault n) .faultActive
     else (s.ack (.clearFault n)).setSource k (s.out.sources[k]).clearLatch) := by
  refine exec_of_served h (r := .clearFault n) ?_
  rw [State.takeRequest, State.takeClearFault, byteFin_eq_some hn]
  rfl

theorem exec_configFault {mode : Byte} {m : FaultMode} (hm : faultModeOf mode = some m) :
    exec (.configFault n mode) s = .next
      ((s.ack (.configFault n mode)).setSource k ((s.out.sources[k]).setMode m)) := by
  refine exec_of_served h (r := .configFault n mode) ?_
  rw [State.takeRequest, State.takeConfigFault, byteFin_eq_some hn, hm]
  rfl

theorem exec_configFault_of_le {mode : Byte} (hm : mode.toNat ≤ 1) :
    let f := s.out.sources[k]
    exec (.configFault n mode) s = .next ((s.ack (.configFault n mode)).setSource k
      (if mode.toNat = 1 then (if f.mode = .follow then f else { f with mode := .follow, latch := false })
       else (if f.mode = .latch then f else { f with mode := .latch, latch := f.input }))) := by
  intro f
  obtain ⟨hfollow, hlatch⟩ := setMode_eq f
  by_cases h1 : mode.toNat = 1
  · have hmode : faultModeOf mode = some .follow := by
      rw [faultModeOf_eq, if_neg (by omega), if_pos h1]
    rw [if_pos h1, ← hfollow, exec_configFault h hn hmode]
  · have hmode : faultModeOf mode = some .latch := by rw [faultModeOf_eq, if_pos (by omega)]
    rw [if_neg h1, ← hlatch, exec_configFault h hn hmode]

end

/-- Settles O37. -/
theorem faultSourcesAct : Obligations.FaultSourcesAct := by
  refine ⟨fun s k f => ?_, fun s k => ⟨fun active hrun hi => ?_,
    fun n mode h hn => ⟨?_, exec_configFault_of_le h hn, configFault_refused h n⟩,
    fun n mode h hn => faultRequests_refused h hn mode⟩⟩
  · obtain ⟨hsources, hframe⟩ := setSource_frame s k f
    refine ⟨?_, hsources, hframe, setSource_outCh s k f, fun h => ?_, fun h => ?_⟩
    · unfold FaultSource.asserted
      cases f.mode <;> exact Iff.rfl
    · rw [setSource_of_same s k f h]
      rfl
    · exact ⟨_, by rw [setSource_of_changed s k f h], naming_shutBy s.out k f⟩
  · rw [exec_faultInputChange hrun hi, inputChange_eq]
  · rw [exec_clearFault h hn, clearLatch_eq]

end Sys2Proof.Machine
end

section
/-! The configuration entries (O36): their codes (section 11.2.1), what each check refuses and what an
accepted entry holds (R114, R131, R142, R151), and where the bytes lie (sections 11.7.1 to 11.7.4). -/

namespace Sys2Proof.Machine

/-! ### Codes (section 11.2.1) -/

/-- A channel mode's code. -/
def ChannelMode.code : ChannelMode → Byte
  | .off => 0
  | .single => 1
  | .pair => 2

section
variable {b : Byte}

theorem byteFin_eq_none_iff (n : Nat) (b : Byte) : byteFin n b = none ↔ n ≤ b.toNat := by
  rw [← Option.not_isSome_iff_eq_none, byteFin_isSome, Nat.not_lt]

theorem channelModeOf_eq_none : channelModeOf b = none ↔ 2 < b.toNat := by
  unfold channelModeOf
  split <;> simp only [imp_false, reduceCtorEq, false_iff, true_iff] at * <;> omega

theorem code_of_channelModeOf {m : ChannelMode} (h : channelModeOf b = some m) : b.toNat = m.code.toNat := by
  unfold channelModeOf at h
  split at h <;> cases h <;> assumption

theorem arbitrationOf_eq_none : arbitrationOf b = none ↔ 1 < b.toNat := by
  unfold arbitrationOf
  split <;> simp only [imp_false, reduceCtorEq, false_iff, true_iff] at * <;> omega

theorem code_of_arbitrationOf {a : Arbitration} (h : arbitrationOf b = some a) : b.toNat = a.code.toNat := by
  unfold arbitrationOf at h
  split at h <;> cases h <;> assumption

theorem safeOf_eq_none : safeOf b = none ↔ 1 < b.toNat := by
  unfold safeOf
  split <;> simp only [imp_false, reduceCtorEq, false_iff, true_iff] at * <;> omega

theorem code_of_safeOf {v : Bool} (h : safeOf b = some v) : b.toNat = (flagByte v).toNat := by
  unfold safeOf at h
  split at h <;> cases h <;> assumption

theorem actionOf_eq_none : actionOf b = none ↔ 3 < b.toNat := by
  unfold actionOf
  split <;> simp only [imp_false, reduceCtorEq, false_iff, true_iff] at * <;> omega

theorem code_of_actionOf {a : Action} (h : actionOf b = some a) : b.toNat = a.code.toNat := by
  unfold actionOf at h
  split at h <;> cases h <;> assumption

theorem maskOf_eq_none : maskOf b = none ↔ 3 < b.toNat := by
  unfold maskOf
  split <;> simp only [reduceCtorEq, false_iff, true_iff] at * <;> omega

theorem getLsbD_of_maskOf {m : BitVec 2} (h : maskOf b = some m) (k : Fin 2) :
    m.getLsbD k.val = b.getLsbD k.val := by
  unfold maskOf at h
  split at h <;> cases h
  simp [k.isLt]

end

/-- What refuses a check's parts one after another: the first part, or what follows it. -/
theorem bind_eq_none_iff_or {α β : Type} {o : Option α} {f : α → Option β} {P Q : Prop}
    (ho : o = none ↔ P) (hf : ∀ a, o = some a → (f a = none ↔ Q)) : o.bind f = none ↔ P ∨ Q := by
  cases o with
  | none => exact ⟨fun _ => .inl (ho.1 rfl), fun _ => rfl⟩
  | some a => rw [Option.bind_some, hf a rfl, ← ho, or_iff_right (Option.some_ne_none a)]

/-- A check that ends in one test. -/
theorem ite_some_eq_none {α : Type} {c : Prop} [Decidable c] {a : α} :
    (if c then some a else none) = none ↔ ¬c := by
  simp

theorem ite_none_eq_none {α : Type} {c : Prop} [Decidable c] {a : α} :
    (if c then none else some a) = none ↔ c := by
  simp

/-! ### Channel entries (R114; section 11.7.2) -/

section
variable (e : ChannelEntry) (ch : Chan)

theorem channelEntry_refused : ChannelEntry.config e ch = none ↔
    2 < e.mode.toNat ∨ 3 < e.period.toNat ∨ 1 < e.safe.toNat ∨ 3 < e.mask.toNat
      ∨ 1 < e.arbitration.toNat ∨ 3 < e.curve.toNat ∨ (e.mode.toNat = 2 ∧ isOdd ch = true) := by
  refine bind_eq_none_iff_or channelModeOf_eq_none fun mode hmode =>
    bind_eq_none_iff_or (byteFin_eq_none_iff 4 _) fun _ _ =>
    bind_eq_none_iff_or safeOf_eq_none fun _ _ => bind_eq_none_iff_or maskOf_eq_none fun _ _ =>
    bind_eq_none_iff_or arbitrationOf_eq_none fun _ _ =>
    bind_eq_none_iff_or (byteFin_eq_none_iff 4 _) fun _ _ => ?_
  have hpair : mode = .pair ↔ e.mode.toNat = 2 := by
    rw [code_of_channelModeOf hmode]
    cases mode <;> decide
  rw [← hpair]
  exact ite_none_eq_none

variable {e ch} {cfg : ChannelConfig}

theorem channelEntry_accepted (h : ChannelEntry.config e ch = some cfg) :
    channelModeOf e.mode = some cfg.mode ∧ byteFin 4 e.period = some cfg.period
      ∧ cfg.deadTime = e.deadTime ∧ safeOf e.safe = some cfg.safe ∧ maskOf e.mask = some cfg.mask
      ∧ arbitrationOf e.arbitration = some cfg.arbitration ∧ byteFin 4 e.curve = some cfg.curve := by
  obtain ⟨mode, hmode, h⟩ := Option.bind_eq_some_iff.1 h
  obtain ⟨period, hperiod, h⟩ := Option.bind_eq_some_iff.1 h
  obtain ⟨safe, hsafe, h⟩ := Option.bind_eq_some_iff.1 h
  obtain ⟨mask, hmask, h⟩ := Option.bind_eq_some_iff.1 h
  obtain ⟨arbitration, harbitration, h⟩ := Option.bind_eq_some_iff.1 h
  obtain ⟨curve, hcurve, h⟩ := Option.bind_eq_some_iff.1 h
  split at h
  · cases h
  · cases h
    exact ⟨hmode, hperiod, rfl, hsafe, hmask, harbitration, hcurve⟩

end

/-! ### Group entries (R131; section 11.7.1) -/

theorem groupEntry_refused (e : GroupEntry) : GroupEntry.config e = none ↔ 15 < e.filter.toNat :=
  ite_some_eq_none.trans Nat.not_le

theorem groupEntry_accepted {e : GroupEntry} {g : Group} (h : GroupEntry.config e = some g) :
    g = { enable := e.enable.getLsbD 0, report := e.report.getLsbD 0, filter := e.filter.toNat } := by
  unfold GroupEntry.config at h
  split at h <;> cases h
  rfl

/-! ### Firings (R142, R151) -/

/-- A firing holds what these fields of its entry say (sections 11.7.3, 11.7.4). -/
def Firing.readFrom (f : Firing) (flags action targets : Byte) (pointer fade expiry : Half) : Prop :=
  action.toNat = f.action.code.toNat
    ∧ (f.mode = .firstIdle ↔ flags.getLsbD 3 = true)
    ∧ (∀ p : Ctx, ctxIn p f.targets = targets.getLsbD p.val)
    ∧ f.pointer = (if flags.getLsbD 4 then some pointer else none)
    ∧ f.fade = fade ∧ f.expiry = expiry

section
variable {flags action targets : Byte} {pointer fade expiry : Half} {a : Action}
  (ha : actionOf action = some a)
include ha

theorem action_codes : (action.toNat = 0 ↔ a = .go) ∧ (action.toNat = 1 ↔ a = .release)
    ∧ (action.toNat < 3 ↔ a ≠ .event) := by
  rw [code_of_actionOf ha]
  cases a <;> decide

theorem firingOf_readFrom : (firingOf flags targets a pointer fade expiry).readFrom flags action targets
    pointer fade expiry := by
  refine ⟨code_of_actionOf ha, ?_, fun p => ?_, rfl, rfl, rfl⟩
  · unfold firingOf
    cases flags.getLsbD 3 <;> simp
  · simp [ctxIn, firingOf, p.isLt]

theorem firingOf_not_allowed : (firingOf flags targets a pointer fade expiry).allowed = false ↔
    (flags.getLsbD 3 = true ∧ action.toNat ≠ 0) ∨ (targets.toNat % 16 = 0 ∧ action.toNat < 3)
      ∨ (action.toNat = 1 ∧ fade.toNat = 65535) := by
  obtain ⟨hgo, hrelease, hevent⟩ := action_codes ha
  obtain ⟨f, hf⟩ : ∃ f, f = firingOf flags targets a pointer fade expiry := ⟨_, rfl⟩
  have hmode : (f.mode == .fixed || f.action == .go) = false ↔ flags.getLsbD 3 = true ∧ a ≠ .go := by
    rw [hf, firingOf]
    cases flags.getLsbD 3 <;> simp
  have htargets : (f.targets != 0 || f.action == .event) = false ↔ targets.toNat % 16 = 0 ∧ a ≠ .event := by
    have hset : targets.setWidth 4 = (0 : CtxSet) ↔ targets.toNat % 16 = 0 := by
      rw [← BitVec.toNat_inj, BitVec.toNat_setWidth]
      rfl
    rw [← hset, Bool.or_eq_false_iff, bne_eq_false_iff_eq, beq_eq_false_iff_ne, hf]
    exact Iff.rfl
  have hfade : (!(f.action == .release && f.fade.toNat == Config.noFade)) = false
      ↔ a = .release ∧ fade.toNat = 65535 := by
    rw [Bool.not_eq_false', Bool.and_eq_true, beq_iff_eq, beq_iff_eq, hf]
    exact Iff.rfl
  rw [← hf, Firing.allowed, Bool.and_eq_false_iff, Bool.and_eq_false_iff, hmode, htargets, hfade, or_assoc,
    ← hevent, ← hrelease, ne_eq, ← hgo]

/-- The further restrictions of a LEVEL entry (R142). -/
theorem firingOf_not_levelAllowed :
    levelAllowed (firingOf flags targets a pointer fade expiry) = false ↔
      action.toNat ≠ 0 ∨ (flags.getLsbD 4 = true ∧ ptrEnd pointer = true) := by
  rw [ne_eq, (action_codes ha).1, levelAllowed, Bool.and_eq_false_iff, beq_eq_false_iff_ne, firingOf]
  cases flags.getLsbD 4 <;> simp

end

/-! ### Trigger entries (R142; section 11.7.3) -/

theorem triggerEntry_refused (e : TriggerEntry) : TriggerEntry.config e = none ↔
    3 < e.action.toNat
      ∨ (e.flags.getLsbD 2 = true ∧ e.action.toNat ≠ 0)
      ∨ (e.flags.getLsbD 3 = true ∧ e.action.toNat ≠ 0)
      ∨ (e.targets.toNat % 16 = 0 ∧ e.action.toNat < 3)
      ∨ (e.action.toNat = 1 ∧ e.fade.toNat = 65535)
      ∨ (e.flags.getLsbD 2 = true ∧ e.flags.getLsbD 4 = true ∧ ptrEnd e.pointer = true) := by
  refine bind_eq_none_iff_or actionOf_eq_none fun a ha => ite_some_eq_none.trans ?_
  have hedge : ((if e.flags.getLsbD 2 then Sense.level else .edge) == .edge) = !e.flags.getLsbD 2 := by
    cases e.flags.getLsbD 2 <;> rfl
  rw [Bool.not_eq_true, Bool.and_eq_false_iff, Bool.or_eq_false_iff, hedge, firingOf_not_allowed ha,
    firingOf_not_levelAllowed ha, Bool.not_eq_false']
  grind

theorem triggerEntry_accepted {e : TriggerEntry} {cfg : TriggerConfig}
    (h : TriggerEntry.config e = some cfg) :
    cfg.enabled = e.flags.getLsbD 0 ∧ cfg.activeLow = e.flags.getLsbD 1
      ∧ (cfg.sense = .level ↔ e.flags.getLsbD 2 = true)
      ∧ cfg.firing.readFrom e.flags e.action e.targets e.pointer e.fade e.expiry := by
  obtain ⟨a, ha, h⟩ := Option.bind_eq_some_iff.1 h
  obtain ⟨-, h⟩ := Option.ite_none_right_eq_some.1 h
  cases h
  refine ⟨rfl, rfl, ?_, firingOf_readFrom ha⟩
  dsimp only
  cases e.flags.getLsbD 2 <;> decide

/-! ### Matcher entries (R151; section 11.7.4) -/

theorem stepLine_eq (b : Byte) : stepLine b = b.toNat % 128 := by
  rw [stepLine, BitVec.extractLsb'_toNat, Nat.shiftRight_zero]

/-- The steps that are checked are those below the step count. -/
theorem steps_out_of_range (steps : Vector Byte 8) (n : Nat) :
    (!((steps.toList.take n).all fun b => stepLine b < 24)) = true
      ↔ ∃ i : Fin 8, i.val < n ∧ 23 < steps[i].toNat % 128 := by
  simp only [Bool.not_eq_true', List.all_eq_false, decide_eq_true_eq, stepLine_eq, Nat.not_lt,
    List.mem_take_iff_getElem, Vector.length_toList, Vector.getElem_toList]
  constructor
  · rintro ⟨_, ⟨i, hi, rfl⟩, hb⟩
    exact ⟨⟨i, by omega⟩, by dsimp only; omega, hb⟩
  · rintro ⟨i, hi, hb⟩
    exact ⟨_, ⟨i.val, by omega, rfl⟩, hb⟩

theorem matcherEntry_refused (e : MatcherEntry) : MatcherEntry.config e = none ↔
    e.stepCount.toNat = 0 ∨ 8 < e.stepCount.toNat
      ∨ (∃ i : Fin 8, i.val < e.stepCount.toNat ∧ 23 < e.steps[i].toNat % 128)
      ∨ e.gap.toNat = 0 ∨ 3 < e.action.toNat
      ∨ (e.flags.getLsbD 3 = true ∧ e.action.toNat ≠ 0)
      ∨ (e.targets.toNat % 16 = 0 ∧ e.action.toNat < 3)
      ∨ (e.action.toNat = 1 ∧ e.fade.toNat = 65535) := by
  have hcode := actionOf_eq_none (b := e.action)
  unfold MatcherEntry.config
  cases ha : actionOf e.action with
  | none => exact iff_of_true rfl (.inr (.inr (.inr (.inr (.inl (hcode.1 ha))))))
  | some a =>
    have hknown : ¬3 < e.action.toNat := fun h => Option.some_ne_none a (ha.symm.trans (hcode.2 h))
    refine ite_none_eq_none.trans ?_
    rw [Bool.or_eq_true, Bool.or_eq_true, Bool.or_eq_true, Bool.or_eq_true, steps_out_of_range,
      Bool.not_eq_true', firingOf_not_allowed ha, decide_eq_true_iff, beq_iff_eq, beq_iff_eq]
    grind

theorem matcherEntry_accepted {e : MatcherEntry} {cfg : MatcherConfig}
    (h : MatcherEntry.config e = some cfg) :
    cfg.enabled = e.flags.getLsbD 0 ∧ cfg.stepCount = e.stepCount.toNat ∧ cfg.steps = e.steps
      ∧ cfg.gap = e.gap.toNat
      ∧ cfg.firing.readFrom e.flags e.action e.targets e.pointer e.fade e.expiry := by
  obtain ⟨a, ha, h⟩ := Option.bind_eq_some_iff.1 h
  dsimp only at h
  split at h <;> cases h
  exact ⟨rfl, rfl, rfl, rfl, firingOf_readFrom ha⟩

/-! ### The requests (R114, R131, R142, R151) -/

section
variable {s : State} (h : s.accepts) {n : Byte}
include h

theorem configChannel_refused {e : ChannelEntry}
    (hr : 15 < n.toNat ∨ ∃ ch : Chan, n.toNat = ch.val ∧ ChannelEntry.config e ch = none) :
    exec (.configChannel n e) s = .next (s.refuse (.configChannel n e) .badField) := by
  refine exec_of_refused h (r := .configChannel n e) ?_
  rw [State.takeRequest, State.takeConfigChannel]
  rcases hr with hn | ⟨ch, hn, he⟩
  · rw [byteFin_eq_none hn]
  · rw [byteFin_eq_some hn]
    dsimp only
    rw [he]

theorem configGroup_refused {e : GroupEntry} (hr : 2 < n.toNat ∨ GroupEntry.config e = none) :
    exec (.configGroup n e) s = .next (s.refuse (.configGroup n e) .badField) := by
  refine exec_of_refused h (r := .configGroup n e) ?_
  rw [State.takeRequest, State.takeConfigGroup]
  rcases hr with hn | he
  · rw [byteFin_eq_none hn]
  · rw [he]
    cases byteFin 3 n <;> rfl

theorem configTrigger_refused {e : TriggerEntry} (hr : 23 < n.toNat ∨ TriggerEntry.config e = none) :
    exec (.configTrigger n e) s = .next (s.refuse (.configTrigger n e) .badField) := by
  refine exec_of_refused h (r := .configTrigger n e) ?_
  rw [State.takeRequest, State.takeConfigTrigger]
  rcases hr with hn | he
  · rw [byteFin_eq_none hn]
  · rw [he]
    cases byteFin 24 n <;> rfl

theorem configMatcher_refused {e : MatcherEntry} (hr : 1 < n.toNat ∨ MatcherEntry.config e = none) :
    exec (.configMatcher n e) s = .next (s.refuse (.configMatcher n e) .badField) := by
  refine exec_of_refused h (r := .configMatcher n e) ?_
  rw [State.takeRequest, State.takeConfigMatcher]
  rcases hr with hn | he
  · rw [byteFin_eq_none hn]
  · rw [he]
    cases byteFin 2 n <;> rfl

end

/-! ### Where the bytes lie (R196) -/

theorem halfOf_eq_ofNat (lo hi : Byte) : halfOf lo hi = BitVec.ofNat 16 (lo.toNat + 256 * hi.toNat) := by
  apply BitVec.eq_of_toNat_eq
  rw [halfOf_toNat, BitVec.toNat_ofNat]
  omega

/-! ### The obligation -/

/-- Settles O36. -/
theorem configurationEntriesAreChecked : Obligations.ConfigurationEntriesAreChecked := by
  refine ⟨channelEntry_refused, groupEntry_refused, triggerEntry_refused, matcherEntry_refused,
    fun s n ce ge te me h => ⟨configChannel_refused h, configGroup_refused h, configTrigger_refused h,
      configMatcher_refused h⟩,
    ⟨fun e ch cfg he => ?_, fun e g he => ?_, fun e cfg he => ?_, fun e cfg he => ?_⟩, fun byte n => ?_⟩
  · obtain ⟨hmode, hperiod, hdead, hsafe, hmask, harbitration, hcurve⟩ := channelEntry_accepted he
    refine ⟨?mode, byteFin_val hperiod, hdead, ?safe, getLsbD_of_maskOf hmask, ?arbitration,
      byteFin_val hcurve⟩
    case mode => rw [code_of_channelModeOf hmode]; cases cfg.mode <;> rfl
    case safe => rw [code_of_safeOf hsafe]; cases cfg.safe <;> rfl
    case arbitration => rw [code_of_arbitrationOf harbitration]; cases cfg.arbitration <;> rfl
  · rw [groupEntry_accepted he]
    exact ⟨rfl, rfl, rfl⟩
  · obtain ⟨henabled, hlow, hsense, haction, hfiring⟩ := triggerEntry_accepted he
    refine ⟨henabled, hlow, hsense, ?_, hfiring⟩
    rw [haction]
    cases cfg.firing.action <;> rfl
  · obtain ⟨henabled, hcount, hsteps, hgap, haction, hfiring⟩ := matcherEntry_accepted he
    refine ⟨henabled, hcount, hsteps, hgap, ?_, hfiring⟩
    rw [haction]
    cases cfg.firing.action <;> rfl
  · simp only [← halfOf_eq_ofNat]
    exact ⟨rfl, rfl, rfl, rfl⟩

end Sys2Proof.Machine
end

section
/-! What a firing does, by its outcome, and the level condition (R135 to R138, R150; O41). -/

namespace Sys2Proof.Machine

/-! ### The outcome of a firing (R136, R138, R150) -/

/-- No record of a source stands in the queue. -/
theorem isQueued_eq_false {s : State} {src : Source} :
    s.isQueued src = false ↔ ∀ r ∈ s.trig.queue, r.source ≠ src := by
  simp [State.isQueued]

section
variable {s : State} {src : Source} {f : Firing}

theorem firingOutcome_of_event (ha : f.action = .event) : s.firingOutcome src f = .posted := by
  rw [State.firingOutcome, ha]

/-- The outcome of a firing that makes a record, by the queue. -/
theorem firingOutcome_of_ne_event (ha : f.action ≠ .event) : s.firingOutcome src f =
    if s.isQueued src then .coalesced
    else if Config.queuePlaces ≤ s.trig.queue.length then .missed
    else .appended := by
  unfold State.firingOutcome
  split
  · next h => exact absurd h ha
  · rfl

theorem firingOutcome_of_queued (ha : f.action ≠ .event) (hq : s.isQueued src = true) :
    s.firingOutcome src f = .coalesced := by
  rw [firingOutcome_of_ne_event ha, if_pos hq]

theorem firingOutcome_of_full (ha : f.action ≠ .event) (hq : s.isQueued src = false)
    (hl : 16 ≤ s.trig.queue.length) : s.firingOutcome src f = .missed := by
  rw [firingOutcome_of_ne_event ha, hq, if_neg Bool.false_ne_true]
  exact if_pos hl

theorem firingOutcome_of_room (ha : f.action ≠ .event) (hq : s.isQueued src = false)
    (hl : s.trig.queue.length < 16) : s.firingOutcome src f = .appended := by
  rw [firingOutcome_of_ne_event ha, hq, if_neg Bool.false_ne_true]
  exact if_neg (Nat.not_le.2 hl)

/-! ### What the firing does, without the examination (R136 to R138, R150) -/

/-- The record that a firing builds, with its fields written out (R137, R154). -/
theorem record_eq_appends (f : Firing) (src : Source) : f.record src = f.appends src := by
  have he : (if f.expiry = 0 then none else some f.expiry.toNat)
      = if f.expiry.toNat = 0 then none else some f.expiry.toNat := by
    simp [← BitVec.toNat_inj]
  rw [Firing.record, he, Firing.delivery]
  rcases f with ⟨action, mode, targets, pointer, fade, expiry⟩
  cases action <;> rfl

theorem act_of_event (ha : f.action = .event) : s.act src f = s.post (sourceEvent src) := by
  rw [State.act, firingOutcome_of_event ha]

theorem act_of_queued (ha : f.action ≠ .event) (hq : s.isQueued src = true) :
    s.act src f = s.markCoalesced src := by
  rw [State.act, firingOutcome_of_queued ha hq]

theorem act_of_full (ha : f.action ≠ .event) (hq : s.isQueued src = false)
    (hl : 16 ≤ s.trig.queue.length) :
    s.act src f = (s.markMissed src).notify (.triggerMissed src f.action) := by
  rw [State.act, firingOutcome_of_full ha hq hl]

theorem act_of_room (ha : f.action ≠ .event) (hq : s.isQueued src = false)
    (hl : s.trig.queue.length < 16) : s.act src f = s.append (f.appends src) := by
  rw [State.act, firingOutcome_of_room ha hq hl, record_eq_appends]

/-! ### The firing taken whole (R138, R155) -/

/-- Only an append brings an examination. -/
theorem fire_eq (s : State) (src : Source) (f : Firing) : s.fire src f =
    if s.firingOutcome src f = .appended then (s.act src f).examine else s.act src f := by
  unfold State.fire
  cases s.firingOutcome src f <;> rfl

theorem fire_of_event (ha : f.action = .event) : s.fire src f = s.post (sourceEvent src) := by
  rw [fire_eq, firingOutcome_of_event ha, if_neg (by decide), act_of_event ha]

theorem fire_of_queued (ha : f.action ≠ .event) (hq : s.isQueued src = true) :
    s.fire src f = s.markCoalesced src := by
  rw [fire_eq, firingOutcome_of_queued ha hq, if_neg (by decide), act_of_queued ha hq]

theorem fire_of_full (ha : f.action ≠ .event) (hq : s.isQueued src = false)
    (hl : 16 ≤ s.trig.queue.length) :
    s.fire src f = (s.markMissed src).notify (.triggerMissed src f.action) := by
  rw [fire_eq, firingOutcome_of_full ha hq hl, if_neg (by decide), act_of_full ha hq hl]

theorem fire_of_room (ha : f.action ≠ .event) (hq : s.isQueued src = false)
    (hl : s.trig.queue.length < 16) : s.fire src f = (s.append (f.appends src)).examine := by
  rw [fire_eq, firingOutcome_of_room ha hq hl, if_pos rfl, act_of_room ha hq hl]

end

/-! ### The level condition (R133, R135) -/

section
variable {s : State} {l : Line}

theorem lineActive_iff : s.lineActive l = true ↔ (s.trig.lines[l]).sampled = true
    ∧ (s.trig.lines[l]).high = !(s.trigger l).config.activeLow := by
  rw [State.lineActive, Bool.and_eq_true, bne_iff_ne, ← Bool.eq_not]

theorem levelHolds_iff : s.levelHolds l = true ↔ (s.trigger l).config.sense = .level
    ∧ ((s.trig.lines[l]).sampled = true
      ∧ (s.trig.lines[l]).high = !(s.trigger l).config.activeLow)
    ∧ (s.trigger l).config.enabled = true ∧ (s.trig.groups[lineGroup l]).enable = true
    ∧ (s.trigger l).heldBy = 0 ∧ (∀ r ∈ s.trig.queue, r.source ≠ .line l)
    ∧ (s.trigger l).resting = false := by
  rw [← lineActive_iff, ← isQueued_eq_false, State.levelHolds, State.groupEnabled]
  simp only [Bool.and_eq_true, beq_iff_eq, Bool.not_eq_true', and_assoc]

theorem sense_of_levelHolds (h : s.levelHolds l = true) : (s.trigger l).config.sense = .level :=
  (levelHolds_iff.1 h).1

/-- A level condition holds only where the entry has no record in the queue. -/
theorem isQueued_of_levelHolds (h : s.levelHolds l = true) : s.isQueued (.line l) = false := by
  obtain ⟨-, -, -, -, -, hq, -⟩ := levelHolds_iff.1 h
  exact isQueued_eq_false.2 hq

theorem testLevel_of_not_holds (h : s.levelHolds l = false) : s.testLevel l = s := by
  rw [State.testLevel, h, if_neg Bool.false_ne_true]

/-- The level condition of an EDGE entry never holds, so a test of one does nothing. -/
theorem testLevel_of_edge (h : (s.trigger l).config.sense = .edge) : s.testLevel l = s := by
  refine testLevel_of_not_holds (Bool.eq_false_iff.2 fun hl => ?_)
  rw [sense_of_levelHolds hl] at h
  cases h

end

/-- Settles O41. -/
theorem levelTestsAndFirings : Obligations.LevelTestsAndFirings := by
  refine ⟨fun s l => ⟨levelHolds_iff, rfl⟩, fun s src f => ⟨fire_of_event, ?_, fun ha hq => ?_,
    fun ha hq hl => ?_, fire_of_room⟩⟩
  · cases src <;> rfl
  · rw [fire_of_queued ha hq]
    cases src <;> rfl
  · rw [fire_of_full ha hq hl]
    cases src <;> rfl

end Sys2Proof.Machine
end

section
/-! Samples and accepted changes of the input lines, and the offer to the matchers (R127 to R130, R133, R134,
R141, R147, R150; O39, O40). -/

namespace Sys2Proof.Machine

/-! ### Samples of a line (R127, R129) -/

theorem acceptsChange_iff {s : State} {l : Line} {high : Bool} : s.acceptsChange l high = true ↔
    (s.trig.lines[l]).high ≠ high ∧ (s.trig.groups[lineGroup l]).filter ≤ (s.trig.lines[l]).run := by
  rw [State.acceptsChange, State.filterLength, Bool.and_eq_true, bne_iff_ne, decide_eq_true_iff]

section
variable {s : State} {l : Line} {high : Bool} (hrun : s.isRunning = true)
include hrun

theorem exec_lineSample (hs : (s.trig.lines[l]).sampled = true) (ha : ¬ s.acceptsChange l high = true) :
    exec (.lineSample l high) s = .next { s with trig := { s.trig with
      lines := s.trig.lines.set l ((s.trig.lines[l]).sample high) } } :=
  if_pos ⟨hrun, hs, Bool.eq_false_iff.2 ha⟩

theorem exec_acceptedChange (hs : (s.trig.lines[l]).sampled = true)
    (hne : (s.trig.lines[l]).high ≠ high)
    (hf : (s.trig.groups[lineGroup l]).filter ≤ (s.trig.lines[l]).run) :
    exec (.acceptedChange l high) s = .next (s.acceptChange l high) :=
  if_pos ⟨hrun, hs, acceptsChange_iff.2 ⟨hne, hf⟩⟩

theorem exec_firstSample (hs : (s.trig.lines[l]).sampled = false) :
    exec (.firstSample l high) s = .next (s.takeFirstSample l high) :=
  if_pos ⟨hrun, hs⟩

end

/-! ### What the parts of an accepted change leave (R128) -/

/-- The work at the trigger entry changes no filter, no group and no configuration. -/
theorem keeps_entryChange (s : State) (l : Line) : Keeps s (s.entryChange l) := by
  unfold State.entryChange
  dsimp only
  split
  · split
    · exact keeps_fire s _ _
    · exact Keeps.refl s
  · split
    · exact keeps_testLevel s l
    · exact keeps_modTrigger s l _ rfl

theorem offerChange_lines (s : State) (l : Line) (high : Bool) :
    (s.offerChange l high).trig.lines = s.trig.lines := by
  refine (Keeps.foldl keeps_fireMatcher _ _).lines.trans ?_
  rw [anyOrder_state]
  rfl

theorem ifReport_trig (s : State) (n : Notice) (report : Bool) :
    (if report then s.notify n else s).trig = s.trig := by
  cases report
  · rfl
  · exact (keeps_notify s n).trig

/-- An accepted change sets the line's level and clears its run count (R127). -/
theorem acceptChange_lines (s : State) (l : Line) (high : Bool) : (s.acceptChange l high).trig.lines
    = s.trig.lines.set l { s.trig.lines[l] with high := high, run := 0 } := by
  unfold State.acceptChange
  extract_lets s1 s2 s3
  have h3 : s3.trig.lines = s1.trig.lines :=
    (keeps_entryChange s2 l).lines.trans (congrArg TriggerUnit.lines (ifReport_trig s1 _ _))
  split
  · exact (offerChange_lines s3 l high).trans h3
  · exact h3

/-- Settles O39. -/
theorem linesAreFiltered : Obligations.LinesAreFiltered := by
  intro s l high hrun f set
  refine ⟨fun hs he => ?equal, fun hs hne hf => ?differs, fun hs hne hf => ?accepted, fun hs => ?first,
    fun _ t ht => ?tested⟩
  case equal =>
    rw [exec_lineSample hrun hs fun ha => (acceptsChange_iff.1 ha).1 he]
    rw [LineFilter.sample, if_pos he]
  case differs =>
    rw [exec_lineSample hrun hs fun ha => (Nat.not_le.2 hf) (acceptsChange_iff.1 ha).2]
    rw [LineFilter.sample, if_neg hne]
  case accepted =>
    refine ⟨_, exec_acceptedChange hrun hs hne hf, ?_⟩
    rw [acceptChange_lines]
    exact Vector.getElem_set_self l.isLt
  case first => exact exec_firstSample hrun hs
  case tested =>
    cases hsense : (t.trigger l).config.sense with
    | edge => exact absurd (testLevel_of_edge hsense) ht
    | level => rfl

/-! ### An accepted change at the trigger entry (R133, R134, R135, R141) -/

/-- The trigger entry after the line's filtered level has changed: the entry, the group and the line's
activity are those that the change found, but for the new level. -/
theorem entryChange_of_changed {s t : State} {l : Line} {high : Bool} (hs : (s.trig.lines[l]).sampled = true)
    (ht : t.trig = (s.modLine l fun f => { f with high := high, run := 0 }).trig) :
    t.entryChange l =
      match (s.trigger l).config.sense with
      | .edge =>
        if (high != (s.trigger l).config.activeLow) && (s.trigger l).config.enabled
            && (s.trig.groups[lineGroup l]).enable then
          t.fire (.line l) (s.trigger l).config.firing
        else t
      | .level =>
        if high != (s.trigger l).config.activeLow then t.testLevel l
        else t.modTrigger l fun e => { e with resting := false } := by
  have htrigger : t.trigger l = s.trigger l := by rw [State.trigger, ht]; rfl
  have hgroup : t.groupEnabled l = (s.trig.groups[lineGroup l]).enable := by
    rw [State.groupEnabled, ht]
    rfl
  have hline : t.trig.lines[l] = { s.trig.lines[l] with high := high, run := 0 } := by
    rw [ht]
    exact Vector.getElem_set_self l.isLt
  have hactive : t.lineActive l = (high != (s.trigger l).config.activeLow) := by
    rw [State.lineActive, hline, htrigger]
    exact (congrArg (· && _) hs).trans (Bool.true_and _)
  cases hsense : (s.trigger l).config.sense with
  | edge => simp only [State.entryChange, htrigger, hsense, hgroup, hactive]
  | level => simp only [State.entryChange, htrigger, hsense, hactive]

/-! ### The offer to the matchers (R147, R150) -/

theorem modMatcher_pair (s : State) (a b : Matcher) : ((s.modMatcher 0 fun _ => a).modMatcher 1 fun _ => b)
    = { s with trig := { s.trig with matchers := #v[a, b] } } := by
  have hm : (s.trig.matchers.set 0 a).set 1 b = #v[a, b] := by
    ext1 i hi
    match i, hi with
    | 0, _ => simp
    | 1, _ => simp
  exact congrArg (fun m => { s with trig := { s.trig with matchers := m } }) hm

/-- A matcher's firing with the fields it is configured with: MATCHED first, then it acts (R150). -/
def State.fireAs (s : State) (m : Fin 2) (f : Firing) : State :=
  (s.notify (.matched m f.action (s.firingOutcome (.matcher m) f))).fire (.matcher m) f

theorem fireMatcher_eq {s : State} {m : Fin 2} {c : MatcherConfig} (h : (s.trig.matchers[m]).config = c) :
    s.fireMatcher m = s.fireAs m c.firing := by
  rw [← h]
  rfl

/-- A firing leaves the configuration of both matchers, so the second fires as it would have at first. -/
theorem fireMatcher_fireMatcher {s : State} {m k : Fin 2} {c d : MatcherConfig}
    (hm : (s.trig.matchers[m]).config = c) (hk : (s.trig.matchers[k]).config = d) :
    (s.fireMatcher m).fireMatcher k = (s.fireAs m c.firing).fireAs k d.firing := by
  rw [fireMatcher_eq (((keeps_fireMatcher s m).matchers k).1.trans hk), fireMatcher_eq hm]

/-- Two things are taken in one order or the other, for some count of the free values (log 9). -/
theorem anyOrder_two {α : Type} (s : State) (a b : α) : ∃ n,
    s.anyOrder [a, b] = ([a, b], { s with free := n })
      ∨ s.anyOrder [a, b] = ([b, a], { s with free := n }) := by
  have horder := List.perm_pair.1 (anyOrder_perm s [a, b])
  refine ⟨(s.anyOrder [a, b]).2.free, ?_⟩
  rw [← anyOrder_state]
  exact horder.imp (fun h => Prod.ext h rfl) fun h => Prod.ext h rfl

section
variable {s s1 : State} {l : Line} {high : Bool}
  (hs1 : s1 = { s with trig := { s.trig with
    matchers := #v[(s.trig.matchers[0].take l high).1, (s.trig.matchers[1].take l high).1] } })
include hs1

/-- Both matchers take the change; those that fire do so in some order (R147). -/
theorem offerChange_eq {firing : List (Fin 2)}
    (hf : firing = (if (s.trig.matchers[0].take l high).2 then [(0 : Fin 2)] else [])
      ++ if (s.trig.matchers[1].take l high).2 then [(1 : Fin 2)] else []) :
    s.offerChange l high = (s1.anyOrder firing).1.foldl State.fireMatcher (s1.anyOrder firing).2 := by
  rw [hs1, hf, ← modMatcher_pair]
  rfl

theorem offerChange_none (h0 : (s.trig.matchers[0].take l high).2 = false)
    (h1 : (s.trig.matchers[1].take l high).2 = false) : s.offerChange l high = s1 := by
  rw [offerChange_eq hs1 (firing := []) (by rw [h0, h1]; rfl)]
  rfl

theorem offerChange_first (h0 : (s.trig.matchers[0].take l high).2 = true)
    (h1 : (s.trig.matchers[1].take l high).2 = false) : s.offerChange l high
      = s1.fireAs 0 (s.trig.matchers[0].take l high).1.config.firing := by
  rw [offerChange_eq hs1 (firing := [0]) (by rw [h0, h1]; rfl)]
  exact fireMatcher_eq (by rw [hs1]; rfl)

theorem offerChange_second (h0 : (s.trig.matchers[0].take l high).2 = false)
    (h1 : (s.trig.matchers[1].take l high).2 = true) : s.offerChange l high
      = s1.fireAs 1 (s.trig.matchers[1].take l high).1.config.firing := by
  rw [offerChange_eq hs1 (firing := [1]) (by rw [h0, h1]; rfl)]
  exact fireMatcher_eq (by rw [hs1]; rfl)

theorem offerChange_both (h0 : (s.trig.matchers[0].take l high).2 = true)
    (h1 : (s.trig.matchers[1].take l high).2 = true) : ∃ n,
      let u : State := { s1 with free := n }
      let fa := (s.trig.matchers[0].take l high).1.config.firing
      let fb := (s.trig.matchers[1].take l high).1.config.firing
      s.offerChange l high = (u.fireAs 0 fa).fireAs 1 fb
        ∨ s.offerChange l high = (u.fireAs 1 fb).fireAs 0 fa := by
  obtain ⟨n, horder⟩ := anyOrder_two s1 (0 : Fin 2) 1
  refine ⟨n, ?_⟩
  rw [offerChange_eq hs1 (firing := [0, 1]) (by rw [h0, h1]; rfl)]
  refine horder.imp (fun h => ?_) fun h => ?_ <;>
    · rw [h]
      exact fireMatcher_fireMatcher (by rw [hs1]; rfl) (by rw [hs1]; rfl)

end

/-- Settles O40. -/
theorem acceptedChangesAct : Obligations.AcceptedChangesAct := by
  refine ⟨fun s l high hrun hs hne hf => ?_, fun s l high => ?_⟩
  · intro g e active f s1 s2 s3
    have h2 : s2.trig = s1.trig := ifReport_trig s1 _ _
    have h3 : s2.entryChange l = s3 := entryChange_of_changed hs h2
    have hgroup : s3.groupEnabled l = g.enable := by
      rw [State.groupEnabled, ← h3, (keeps_entryChange s2 l).groups, h2]
    rw [exec_acceptedChange hrun hs hne hf, ← hgroup, ← h3]
    rfl
  · exact ⟨offerChange_none rfl, offerChange_first rfl, offerChange_second rfl, offerChange_both rfl⟩

end Sys2Proof.Machine
end

section
/-! CONFIG_GROUP, CONFIG_TRIGGER and CONFIG_MATCHER take effect (R131, R135, R143, R152, R155; O43). -/

namespace Sys2Proof.Machine

theorem groupEntry_of_le {e : GroupEntry} (h : e.filter.toNat ≤ 15) : GroupEntry.config e = some
    { enable := e.enable.getLsbD 0, report := e.report.getLsbD 0, filter := e.filter.toNat } :=
  if_pos h

/-- The eight lines of a group, lowest first. -/
theorem groupLines_eq (g : Fin 3) : groupLines g
    = (List.range 8).map fun i => (⟨8 * g.val + i % 8, by omega⟩ : Line) := by
  revert g
  decide

theorem configureGroup_eq (s : State) (g : Fin 3) (v : Group) : s.configureGroup g v = State.examine
    (if v.enable = true ∧ (s.trig.groups[g]).enable = false then
      ((List.range 8).map fun i => (⟨8 * g.val + i % 8, by omega⟩ : Line)).foldl State.testLevel
        (s.setGroup g v)
    else s.setGroup g v) := by
  simp only [State.configureGroup, groupLines_eq, Bool.and_eq_true, Bool.not_eq_true']

/-- An EDGE entry is not tested: its level condition never holds. -/
theorem configureTrigger_eq (s : State) (l : Line) (cfg : TriggerConfig) : s.configureTrigger l cfg
    = (let s1 := s.modTrigger l fun t => t.configure cfg
       if cfg.sense = .level then s1.testLevel l else s1).examine := by
  have hcfg : ((s.modTrigger l fun t => t.configure cfg).trigger l).config = cfg := by
    rw [State.modTrigger_trigger, if_pos rfl]
    rfl
  rw [State.configureTrigger]
  dsimp only
  split
  · rfl
  · next h =>
    have hedge : cfg.sense = .edge := by
      cases hs : cfg.sense with
      | edge => rfl
      | level => exact absurd hs h
    rw [testLevel_of_edge (by rw [hcfg]; exact hedge)]

theorem configure_eq (t : Trigger) (cfg : TriggerConfig) : t.configure cfg
    = { t with config := cfg, resting := false,
               heldBy := if cfg.sense = .edge then 0 else t.heldBy } := by
  rw [Trigger.configure]
  cases cfg.sense <;> rfl

section
variable {s : State} (h : s.accepts) {n : Byte}
include h

theorem exec_configGroup {g : Fin 3} (hn : n.toNat = g.val) {e : GroupEntry} {v : Group}
    (he : GroupEntry.config e = some v) :
    exec (.configGroup n e) s = .next ((s.ack (.configGroup n e)).configureGroup g v) := by
  refine exec_of_served h (r := .configGroup n e) ?_
  rw [State.takeRequest, State.takeConfigGroup, byteFin_eq_some hn, he]
  rfl

theorem exec_configTrigger {l : Line} (hn : n.toNat = l.val) {e : TriggerEntry} {cfg : TriggerConfig}
    (he : TriggerEntry.config e = some cfg) :
    exec (.configTrigger n e) s = .next ((s.ack (.configTrigger n e)).configureTrigger l cfg) := by
  refine exec_of_served h (r := .configTrigger n e) ?_
  rw [State.takeRequest, State.takeConfigTrigger, byteFin_eq_some hn, he]
  rfl

theorem exec_configMatcher {m : Fin 2} (hn : n.toNat = m.val) {e : MatcherEntry} {cfg : MatcherConfig}
    (he : MatcherEntry.config e = some cfg) :
    exec (.configMatcher n e) s = .next ((s.ack (.configMatcher n e)).modMatcher m fun t =>
      { t with config := cfg, progress := 0, gapRemaining := 0 }).examine := by
  refine exec_of_served h (r := .configMatcher n e) ?_
  rw [State.takeRequest, State.takeConfigMatcher, byteFin_eq_some hn, he]
  rfl

end

/-- Settles O43. -/
theorem trigConfigurationTakesEffect : Obligations.TrigConfigurationTakesEffect := by
  refine ⟨fun s n g e h hn hf => ?_, fun s n h =>
    ⟨fun l e cfg hn he => ?_, fun m e cfg hn he => exec_configMatcher h hn he⟩⟩
  · rw [exec_configGroup h hn (groupEntry_of_le hf), configureGroup_eq]
    rfl
  · rw [exec_configTrigger h hn he, configureTrigger_eq]
    simp only [configure_eq]
    rfl

end Sys2Proof.Machine
end

section
/-! The walk of an examination, an examination that offers nothing, and the removal of a record (R141, R153,
R155 to R159; O46). -/

namespace Sys2Proof.Machine

/-! ### A step of the walk (R155; logs 15, 16) -/

section
variable {s : State} {k i : Nat}

theorem walk_of_end (h : s.trig.queue[i]? = none) : State.walk (k + 1) i s = s := by
  rw [State.walk, h]

/-- A record that expires at the tick being taken is passed over (log 15). -/
theorem walk_of_expiring {r : DeliveryRecord} (h : s.trig.queue[i]? = some r) (he : r.expiry = some 0) :
    State.walk (k + 1) i s = State.walk k (i + 1) s := by
  rw [State.walk, h]
  exact if_pos he

/-- A record is put back into its place as its service left it. -/
def State.servedAt (s : State) (i : Nat) (r : DeliveryRecord) : State :=
  (s.serveRecord r).2.2.setQueue (s.trig.queue.set i (s.serveRecord r).1)

/-- A record is served and put back, or removed where its service is complete. -/
theorem walk_of_served {r : DeliveryRecord} (h : s.trig.queue[i]? = some r) (he : r.expiry ≠ some 0) :
    State.walk (k + 1) i s =
      if (s.serveRecord r).2.1 then
        State.walk k i (State.removeRecord State.testInWalk (s.servedAt i r) (s.serveRecord r).1)
      else State.walk k (i + 1) (s.servedAt i r) := by
  obtain ⟨-, -, hq⟩ := serveRecord_spec s r
  rw [State.servedAt, ← hq, State.walk, h]
  exact if_neg he

end

/-! ### Services in which every offer waits (R155, R156, R157) -/

section
variable {s : State} {r : DeliveryRecord}

/-- Offers that all wait change neither the record nor the state. -/
theorem offerAll_of_waits {l : List Ctx} (h : ∀ p ∈ l, (s.ctx p).answer r.delivery = .waits) :
    s.offerAll r l = (r, s) := by
  induction l with
  | nil => rfl
  | cons p ps ih =>
    have hp : (s.offer r p).2 = (r, s) := by rw [offer_of_waits (h p List.mem_cons_self)]
    rw [State.offerAll, List.foldl_cons, hp]
    exact ih fun q hq => h q (List.mem_cons_of_mem p hq)

theorem serveFixed_of_waits
    (h : ∀ p, ctxIn p r.remaining = true → (s.ctx p).answer r.delivery = .waits) :
    s.serveFixed r = (r, r.remaining == 0, s) := by
  rw [serveFixed_eq, offerAll_of_waits fun p hp => h p (mem_targets.1 hp)]

/-- No candidate is known to be in the phase: none is offered the record. -/
theorem serveKnown_of_unknown {ph : Phase} (h : ∀ p, ctxIn p r.remaining = true → s.trig.known[p] ≠ ph)
    (l : List Ctx) : s.serveKnown r ph l = (.goingOn, r, s) := by
  induction l with
  | nil => rfl
  | cons p ps ih =>
    have hp : (ctxIn p r.remaining && s.trig.known[p] == ph) = false := by
      rw [Bool.and_eq_false_imp]
      exact fun hin => beq_false_of_ne (h p hin)
    rw [State.serveKnown, hp, if_neg Bool.false_ne_true, ih]

theorem serveFirstIdle_of_unknown
    (h : ∀ p : Ctx, ctxIn p r.remaining = true → s.trig.known[p] ≠ .idle ∧ s.trig.known[p] ≠ .faulted) :
    s.serveFirstIdle r = (r, r.remaining == 0, s) := by
  rw [State.serveFirstIdle, serveKnown_of_unknown fun p hp => (h p hp).2]
  dsimp only
  rw [serveKnown_of_unknown fun p hp => (h p hp).1]

end

/-! ### A walk that changes nothing (R155) -/

/-- The service of every record that stands offers nothing, or every offer waits, and stays incomplete. -/
def State.QueueWaits (s : State) : Prop := ∀ r ∈ s.trig.queue, s.serveRecord r = (r, false, s)

theorem walk_of_queueWaits {s : State} (h : s.QueueWaits) (k i : Nat) : State.walk k i s = s := by
  induction k generalizing i with
  | zero => rfl
  | succ k ih =>
    cases hr : s.trig.queue[i]? with
    | none => exact walk_of_end hr
    | some r =>
      by_cases he : r.expiry = some 0
      · rw [walk_of_expiring hr he, ih]
      · have hs : s.serveRecord r = (r, false, s) := h r (List.mem_of_getElem? hr)
        have hback : s.servedAt i r = s := by
          obtain ⟨hi, hv⟩ := List.getElem?_eq_some_iff.1 hr
          rw [State.servedAt, hs]
          dsimp only
          rw [← hv, List.set_getElem_self]
          rfl
        rw [walk_of_served hr he, hback, hs, if_neg Bool.false_ne_true, ih]

theorem examine_of_queueWaits {s : State} (h : State.QueueWaits { s with reports := [] }) : s.examine = s := by
  have hw : s.walkOnce = (s, []) := by rw [State.walkOnce, walk_of_queueWaits h]
  rw [examine_of_quiet s (by rw [hw]), hw]

/-- A record whose every offer waits, or none of whose candidates TRIG knows in IDLE or FAULTED. -/
theorem serveRecord_of_waits {s : State} {r : DeliveryRecord} (hr : r.remaining ≠ 0)
    (h : match r.mode with
      | .fixed => ∀ p, ctxIn p r.remaining = true → (s.ctx p).answer r.delivery = .waits
      | .firstIdle => ∀ p : Ctx, ctxIn p r.remaining = true →
          s.trig.known[p] ≠ .idle ∧ s.trig.known[p] ≠ .faulted) :
    s.serveRecord r = (r, false, s) := by
  have hdone : (r.remaining == 0) = false := beq_false_of_ne hr
  rw [State.serveRecord]
  cases hm : r.mode with
  | fixed =>
    rw [hm] at h
    exact hdone ▸ serveFixed_of_waits h
  | firstIdle =>
    rw [hm] at h
    exact hdone ▸ serveFirstIdle_of_unknown h

/-! ### Tests in a walk (R155) -/

section
variable {s : State} {l : Line}

theorem testInWalk_of_not_holds (h : s.levelHolds l = false) : s.testInWalk l = s := by
  rw [State.testInWalk, h, if_neg Bool.false_ne_true]

theorem testInWalk_of_holds (h : s.levelHolds l = true) :
    s.testInWalk l = s.act (.line l) (s.trigger l).config.firing := if_pos h

end

/-! ### A record's removal (R141, R153, R159) -/

theorem restAtRemoval_queue (s : State) (r : DeliveryRecord) :
    (s.restAtRemoval r).trig.queue = s.trig.queue := by
  unfold State.restAtRemoval
  split
  · split <;> rfl
  · rfl

/-- The record has left the queue; the tests are still to come. -/
theorem removeRecord_eq (test : State → Line → State) (s : State) (r : DeliveryRecord) :
    State.removeRecord test s r = (List.finRange 24).foldl test
      ((s.restAtRemoval r).setQueue (s.trig.queue.filter fun q => q.source != r.source)) := by
  rw [State.removeRecord, State.dequeue, restAtRemoval_queue]
  rfl

/-- Settles O46. -/
theorem examinationsAndRemovals : Obligations.ExaminationsAndRemovals := by
  refine ⟨fun s h => ?waits, fun s => ?reports, fun s k i => ?walk, fun s l => ?tests,
    fun test s r => ?removal⟩
  case waits =>
    refine examine_of_queueWaits fun r hr => ?_
    obtain ⟨hne, hm⟩ := h r hr
    exact serveRecord_of_waits hne hm
  case reports => rfl
  case walk => exact ⟨walk_of_end, fun r hr => ⟨walk_of_expiring hr, walk_of_served hr⟩⟩
  case tests =>
    intro f
    refine ⟨testInWalk_of_not_holds, fun h ha hl => ?_, fun h ha hl => ?_, fun h ha => ?_⟩
    · rw [testInWalk_of_holds h, act_of_room ha (isQueued_of_levelHolds h) hl]
      rfl
    · rw [testInWalk_of_holds h, act_of_full ha (isQueued_of_levelHolds h) hl]
      rfl
    · rw [testInWalk_of_holds h, act_of_event ha]
  case removal =>
    intro queue s1 s2
    have hs : ∀ f : State → Line → State, State.removeRecord f s r = (List.finRange 24).foldl f s2 :=
      fun f => removeRecord_eq f s r
    refine ⟨hs test, fun h => ⟨?_, ?_⟩⟩
    · rw [hs, List.foldl_fixed' fun l => testLevel_of_not_holds (h l)]
    · rw [hs, List.foldl_fixed' fun l => testInWalk_of_not_holds (h l)]

end Sys2Proof.Machine
end

section
/-! A matcher takes a change and a tick (R147 to R149; O42), and a tick at TRIG (R149, R160; O48). -/

namespace Sys2Proof.Machine

/-! ### A matcher's step and its progress (R147, R148) -/

/-- A matcher's step names the line, and the change has the step's direction (R147). -/
def Matcher.fits (m : Matcher) (i : Nat) (l : Line) (high : Bool) : Prop :=
  (m.config.steps.toList.getD i 0).toNat % 128 = l.val
    ∧ high = !(m.config.steps.toList.getD i 0).getLsbD 7

theorem stepMatches_iff_fits {m : Matcher} {i : Nat} {l : Line} {high : Bool} :
    stepMatches (m.config.step i) l high = true ↔ m.fits i l high := by
  rw [stepMatches, stepLine_eq, stepFalling, Bool.and_eq_true, beq_iff_eq, bne_iff_ne, ← Bool.eq_not]
  rfl

section
variable {m : Matcher} {l : Line} {high : Bool}

theorem take_of_disabled (he : m.config.enabled = false) : m.take l high = (m, false) := by
  rw [Matcher.take, he]
  rfl

/-- An enabled matcher meets the step at its progress, or else step 0, or else loses its attempt (R148). -/
theorem take_of_enabled (he : m.config.enabled = true) : m.take l high =
    if stepMatches (m.config.step m.progress) l high then m.meet m.progress
    else if stepMatches (m.config.step 0) l high then m.meet 0
    else ({ m with progress := 0, gapRemaining := 0 }, false) := by
  rw [Matcher.take, he]
  rfl

theorem take_of_fits (he : m.config.enabled = true) (hf : m.fits m.progress l high) :
    m.take l high = m.meet m.progress := by
  rw [take_of_enabled he, if_pos (stepMatches_iff_fits.2 hf)]

theorem take_of_fits_first (he : m.config.enabled = true) (hf : ¬ m.fits m.progress l high)
    (h0 : m.fits 0 l high) : m.take l high = m.meet 0 := by
  rw [take_of_enabled he, if_neg (mt stepMatches_iff_fits.1 hf), if_pos (stepMatches_iff_fits.2 h0)]

theorem take_of_no_fit (he : m.config.enabled = true) (hf : ¬ m.fits m.progress l high)
    (h0 : ¬ m.fits 0 l high) : m.take l high = ({ m with progress := 0, gapRemaining := 0 }, false) := by
  rw [take_of_enabled he, if_neg (mt stepMatches_iff_fits.1 hf), if_neg (mt stepMatches_iff_fits.1 h0)]

/-! ### A matcher's tick (R149) -/

theorem matcher_tick_of_idle (h : m.progress = 0) : m.tick = m := if_pos h

theorem matcher_tick_of_lapse (hp : 0 < m.progress) (hg : m.gapRemaining ≤ 1) :
    m.tick = { m with progress := 0, gapRemaining := 0 } := by
  rw [Matcher.tick, if_neg hp.ne', if_pos hg]

theorem matcher_tick_of_gap (hp : 0 < m.progress) (hg : 1 < m.gapRemaining) :
    m.tick = { m with gapRemaining := m.gapRemaining - 1 } := by
  rw [Matcher.tick, if_neg hp.ne', if_neg hg.not_ge]

end

/-- Settles O42. -/
theorem matchersStep : Obligations.MatchersStep := by
  intro m l high fits at_
  refine ⟨take_of_disabled, fun he hf => ?advances, fun he hf h0 => ?restarts, take_of_no_fit,
    matcher_tick_of_idle, matcher_tick_of_gap, fun hp hg => matcher_tick_of_lapse hp hg.le⟩
  case advances => exact take_of_fits he hf
  case restarts => exact (take_of_fits_first he hf h0).trans (if_congr eq_comm rfl rfl)

/-! ### What a tick at TRIG counts (R149, R160) -/

@[simp] theorem tick_source (r : DeliveryRecord) : r.tick.source = r.source := rfl

/-- The part with each matcher's gap and each record's expiry counted, before anything is removed. -/
def State.trigCounted (s : State) : State :=
  { s with trig := { s.trig with
    queue := s.trig.queue.map DeliveryRecord.tick
    matchers := #v[s.trig.matchers[0].tick, s.trig.matchers[1].tick] } }

/-- The records that expire at this tick, oldest first. -/
def State.expiring (s : State) : List DeliveryRecord :=
  s.trigCounted.trig.queue.filter fun r => r.expiry == some 0

/-- A tick at TRIG counts, and then removes what expires, oldest first. -/
theorem tickTrig_eq (s : State) : s.tickTrig
    = s.expiring.foldl (fun t e => t.expireRecord e.source) s.trigCounted := by
  unfold State.tickTrig
  rw [modMatcher_both]
  exact List.foldl_map

theorem expiring_eq_nil {s : State} (h : ∀ r ∈ s.trigCounted.trig.queue, r.expiry ≠ some 0) :
    s.expiring = [] :=
  List.filter_eq_nil_iff.2 fun r hr => by simpa using h r hr

theorem trigCounted_matcher (s : State) (m : Fin 2) :
    s.trigCounted.trig.matchers[m] = (s.trig.matchers[m]).tick := by
  match m with
  | 0 => rfl
  | 1 => rfl

/-! ### A record that expires (R160) -/

theorem expireRecord_of_none {s : State} {src : Source}
    (h : s.trig.queue.find? (fun r => r.source == src) = none) : s.expireRecord src = s := by
  rw [State.expireRecord, h]

/-- The record is removed, and TRIGGER_EXPIRED names its remaining set. -/
theorem expireRecord_of_find {s : State} {src : Source} {r : DeliveryRecord}
    (h : s.trig.queue.find? (fun r => r.source == src) = some r) :
    s.expireRecord src = State.removeRecord State.testLevel
      (s.notify (.triggerExpired r.source r.delivery.action r.remaining)) r := by
  have hsrc : r.source = src := by simpa using List.find?_some h
  rw [State.expireRecord, h, hsrc]

/-- A record alone among its queue to expire, and the only one of its source. -/
structure SoleExpiry (s : State) (before : List DeliveryRecord) (r : DeliveryRecord)
    (after : List DeliveryRecord) : Prop where
  queue : s.trig.queue = before ++ r :: after
  expiry : r.expiry = some 1
  others : ∀ q ∈ before ++ after, q.expiry ≠ some 0 ∧ q.expiry ≠ some 1 ∧ q.source ≠ r.source

section
variable {s : State} {before after : List DeliveryRecord} {r : DeliveryRecord}

/-- A tick takes a record's expiry to 0 only from 1, or where it stood at 0. -/
theorem tick_expiry_ne {q : DeliveryRecord} (h0 : q.expiry ≠ some 0) (h1 : q.expiry ≠ some 1) :
    q.tick.expiry ≠ some 0 := by
  rw [DeliveryRecord.tick]
  cases he : q.expiry with
  | none => simp
  | some n =>
    rw [he] at h0 h1
    simp only [ne_eq, Option.some.injEq, Option.map_some] at h0 h1 ⊢
    omega

theorem SoleExpiry.tick_eq (h : SoleExpiry s before r after) : r.tick = { r with expiry := some 0 } := by
  rw [DeliveryRecord.tick, h.expiry]
  rfl

theorem SoleExpiry.trigCounted_queue (h : SoleExpiry s before r after) : s.trigCounted.trig.queue
    = before.map DeliveryRecord.tick ++ r.tick :: after.map DeliveryRecord.tick := by
  show s.trig.queue.map DeliveryRecord.tick = _
  rw [h.queue, List.map_append, List.map_cons]

theorem SoleExpiry.filter_others (h : SoleExpiry s before r after) {l : List DeliveryRecord}
    (hl : l ⊆ before ++ after) :
    (l.map DeliveryRecord.tick).filter (fun q => q.expiry == some 0) = [] := by
  refine List.filter_eq_nil_iff.2 (List.forall_mem_map.2 fun q hq => ?_)
  obtain ⟨h0, h1, -⟩ := h.others q (hl hq)
  simpa using tick_expiry_ne h0 h1

theorem SoleExpiry.expiring_eq (h : SoleExpiry s before r after) : s.expiring = [r.tick] := by
  rw [State.expiring, h.trigCounted_queue, List.filter_append, List.filter_cons_of_pos (by simp [h.tick_eq]),
    h.filter_others (List.subset_append_left _ _), h.filter_others (List.subset_append_right _ _),
    List.nil_append]

theorem SoleExpiry.find_eq (h : SoleExpiry s before r after) :
    s.trigCounted.trig.queue.find? (fun q => q.source == r.tick.source) = some r.tick := by
  have hbefore : (before.map DeliveryRecord.tick).find? (fun q => q.source == r.tick.source) = none := by
    refine List.find?_eq_none.2 (List.forall_mem_map.2 fun q hq => ?_)
    obtain ⟨-, -, hsrc⟩ := h.others q (List.mem_append_left _ hq)
    simpa using hsrc
  rw [h.trigCounted_queue, List.find?_append, hbefore, Option.none_or,
    List.find?_cons_of_pos (by simp)]

theorem SoleExpiry.tickTrig_eq (h : SoleExpiry s before r after) : s.tickTrig
    = State.removeRecord State.testLevel (s.trigCounted.notify
        (.triggerExpired r.source r.delivery.action r.remaining)) { r with expiry := some 0 } := by
  rw [Machine.tickTrig_eq, h.expiring_eq, List.foldl_cons, List.foldl_nil, expireRecord_of_find h.find_eq,
    h.tick_eq]

end

/-! ### The tick, and what ends with it (log 8) -/

section
variable {s : State} (h : 0 < s.owed.trig)
include h

theorem exec_tickArrivalTrig : exec .tickArrivalTrig s = .next s.takeTrigTick := if_pos h

theorem exec_recordExpiry {r : DeliveryRecord} (hr : r ∈ s.trig.queue) (he : r.expiry = some 1) :
    exec (.recordExpiry r.source) s = .next s.takeTrigTick :=
  if_pos ⟨h, List.any_eq_true.2 ⟨r, hr, by simp [he]⟩⟩

theorem exec_gapLapse {m : Fin 2} (hp : 0 < (s.trig.matchers[m]).progress)
    (hg : (s.trig.matchers[m]).gapRemaining = 1) : exec (.gapLapse m) s = .next s.takeTrigTick :=
  if_pos ⟨h, by rw [Matcher.lapses, hg, decide_eq_true hp]; rfl⟩

end

/-- Removals leave the matchers' attempts as the counting left them. -/
theorem takeTrigTick_matcher (s : State) (m : Fin 2) :
    (s.takeTrigTick.trig.matchers[m]).progress = (s.trigCounted.trig.matchers[m]).progress
      ∧ (s.takeTrigTick.trig.matchers[m]).gapRemaining
        = (s.trigCounted.trig.matchers[m]).gapRemaining := by
  have hkeeps : Keeps s.trigCounted s.tickTrig := by
    rw [tickTrig_eq]
    exact Keeps.foldl (fun t (e : DeliveryRecord) => keeps_expireRecord t e.source) _ _
  obtain ⟨-, hprogress, hgap⟩ := hkeeps.matchers m
  exact ⟨hprogress, hgap⟩

/-- Settles O48. -/
theorem tickCountsAtTrig : Obligations.TickCountsAtTrig := by
  intro s howed counted s1 done
  have htick := exec_tickArrivalTrig howed
  have hdone : s.takeTrigTick = done s.tickTrig := rfl
  refine ⟨fun hnone => ?quiet, ?removals, fun r hr he => ?record, ⟨_, htick, takeTrigTick_matcher s,
    fun m hp hg => ?lapse⟩, fun before r after hs he hothers => ?sole⟩
  case quiet =>
    rw [htick, hdone, tickTrig_eq, expiring_eq_nil hnone]
    rfl
  case removals =>
    rw [htick, hdone, tickTrig_eq]
    refine congrArg (Host.Outcome.next ∘ done) (List.foldl_ext _ _ s1 fun t e _ => ?_)
    cases hf : t.trig.queue.find? (fun r => r.source == e.source) with
    | none => exact expireRecord_of_none hf
    | some r =>
      rw [expireRecord_of_find hf]
      dsimp only
      cases r.delivery <;> rfl
  case record => rw [htick, exec_recordExpiry howed hr he]
  case lapse =>
    obtain ⟨hprogress, hgap⟩ := takeTrigTick_matcher s m
    rw [trigCounted_matcher, matcher_tick_of_lapse hp hg.le] at hprogress hgap
    exact ⟨exec_gapLapse howed hp hg, hprogress, hgap⟩
  case sole =>
    have hr : r ∈ s.trig.queue := hs ▸ List.mem_append_right _ List.mem_cons_self
    have hsole : SoleExpiry s before r after := ⟨hs, he, hothers⟩
    exact (exec_recordExpiry howed hr he).trans
      (congrArg (Host.Outcome.next ∘ done) hsole.tickTrig_eq)

end Sys2Proof.Machine
end

section
/-! The service of a FIRST_IDLE record, candidate by candidate (R157, R158; O45). -/

namespace Sys2Proof.Machine

/-! ### The lowest candidate known to be in a phase (R157) -/

/-- A context of a record's remaining set that TRIG knows to be in a phase. -/
def State.knownIn (s : State) (r : DeliveryRecord) (ph : Phase) (p : Ctx) : Bool :=
  ctxIn p r.remaining && s.trig.known[p] == ph

/-- The record after a context has left its remaining set. -/
def DeliveryRecord.without (r : DeliveryRecord) (p : Ctx) : DeliveryRecord :=
  { r with remaining := ctxOut r.remaining p }

/-- The part after a context has refused a record, with the notice of it (R158). -/
def State.afterRefusal (s : State) (r : DeliveryRecord) (p : Ctx) (why : Reason) : State :=
  s.notify (.triggerRefused r.source p r.delivery.action why)

section
variable {s : State} {r : DeliveryRecord} {ph : Phase} {p : Ctx} {ps : List Ctx}

theorem knownIn_iff : s.knownIn r ph p = true ↔ ctxIn p r.remaining = true ∧ s.trig.known[p] = ph := by
  rw [State.knownIn, Bool.and_eq_true, beq_iff_eq]

theorem afterRefusal_ctx (why : Reason) (q : Ctx) : (s.afterRefusal r p why).ctx q = s.ctx q :=
  notify_ctx s _ q

theorem afterRefusal_known (why : Reason) : (s.afterRefusal r p why).trig.known = s.trig.known :=
  congrArg TriggerUnit.known (keeps_notify s _).trig

theorem ctxIn_without (q : Ctx) :
    ctxIn q (r.without p).remaining = (ctxIn q r.remaining && decide (q ≠ p)) := ctxIn_ctxOut _ _ _

/-- A refusal takes the refuser alone out of the candidates. -/
theorem knownIn_afterRefusal (why : Reason) (q : Ctx) : (s.afterRefusal r p why).knownIn (r.without p) ph q
    = (s.knownIn r ph q && decide (q ≠ p)) := by
  rw [State.knownIn, State.knownIn, afterRefusal_known, ctxIn_without, Bool.and_right_comm]

theorem serveKnown_cons_of_not (h : s.knownIn r ph p = false) :
    s.serveKnown r ph (p :: ps) = s.serveKnown r ph ps := by
  rw [State.serveKnown, ← State.knownIn, h, if_neg Bool.false_ne_true]

theorem serveKnown_cons_of_taken (h : s.knownIn r ph p = true) (ha : (s.ctx p).answer r.delivery = .taken) :
    s.serveKnown r ph (p :: ps) = (.complete, (s.offer r p).2) := by
  rw [State.serveKnown, ← State.knownIn, if_pos h, offer_of_taken ha]

theorem serveKnown_cons_of_waits (h : s.knownIn r ph p = true) (ha : (s.ctx p).answer r.delivery = .waits) :
    s.serveKnown r ph (p :: ps) = (.stays, r, s) := by
  rw [State.serveKnown, ← State.knownIn, if_pos h, offer_of_waits ha]

theorem serveKnown_cons_of_refused {why : Reason} (h : s.knownIn r ph p = true)
    (ha : (s.ctx p).answer r.delivery = .refused why) : s.serveKnown r ph (p :: ps)
      = (s.afterRefusal r p why).serveKnown (r.without p) ph ps := by
  rw [State.serveKnown, ← State.knownIn, if_pos h, offer_of_refused ha]
  rfl

/-- Contexts that are no candidates are passed over. -/
theorem serveKnown_append_of_not {l : List Ctx} (h : ∀ q ∈ l, s.knownIn r ph q = false) :
    s.serveKnown r ph (l ++ ps) = s.serveKnown r ph ps := by
  induction l with
  | nil => rfl
  | cons q qs ih =>
    rw [List.cons_append, serveKnown_cons_of_not (h q List.mem_cons_self),
      ih fun x hx => h x (List.mem_cons_of_mem q hx)]

/-- The offers start at the lowest candidate. -/
theorem serveKnown_of_find {l : List Ctx} (h : l.find? (s.knownIn r ph) = some p) : ∃ ps,
    s.serveKnown r ph l = s.serveKnown r ph (p :: ps) ∧ s.knownIn r ph p = true
      ∧ ∀ why, (s.afterRefusal r p why).serveKnown (r.without p) ph l
        = (s.afterRefusal r p why).serveKnown (r.without p) ph ps := by
  obtain ⟨hp, before, ps, rfl, hbefore⟩ := List.find?_eq_some_iff_append.1 h
  have hnot : ∀ q ∈ before, s.knownIn r ph q = false := fun q hq => by simpa using hbefore q hq
  refine ⟨ps, serveKnown_append_of_not hnot, hp, fun why => ?_⟩
  rw [serveKnown_append_of_not fun q hq => by rw [knownIn_afterRefusal, hnot q hq, Bool.false_and],
    serveKnown_cons_of_not (by rw [knownIn_afterRefusal, decide_eq_false (by simp), Bool.and_false])]

theorem serveKnown_of_none (h : allCtx.find? (s.knownIn r ph) = none) :
    s.serveKnown r ph allCtx = (.goingOn, r, s) := by
  have hnot : ∀ q ∈ allCtx, s.knownIn r ph q = false := fun q hq => by
    simpa using List.find?_eq_none.1 h q hq
  exact serveKnown_append_of_not (ps := []) hnot

end

/-! ### The service, offer by offer (R157, R158) -/

/-- The candidate to be offered the record next: the lowest known FAULTED, then the lowest known IDLE. -/
def State.nextOffer (s : State) (r : DeliveryRecord) : Option Ctx :=
  (allCtx.find? (s.knownIn r .faulted)).or (allCtx.find? (s.knownIn r .idle))

/-- How the last round's outcome ends a service: one that has offered to all is complete where no candidate is
left (R157, R158). -/
def endOfService (z : Course × DeliveryRecord × State) : DeliveryRecord × Bool × State :=
  (z.2.1, z.1 == .complete || z.1 == .goingOn && z.2.1.remaining == 0, z.2.2)

section
variable {s : State} {r : DeliveryRecord} {p : Ctx}

/-- With no candidate known FAULTED, the round of the IDLE is the whole service. -/
theorem serveFirstIdle_of_not_faulted (h : allCtx.find? (s.knownIn r .faulted) = none) :
    s.serveFirstIdle r = endOfService (s.serveKnown r .idle allCtx) := by
  rw [State.serveFirstIdle, serveKnown_of_none h]
  dsimp only
  rcases s.serveKnown r .idle allCtx with ⟨c, z⟩
  cases c <;> rfl

theorem serveFirstIdle_of_no_offer (h : s.nextOffer r = none) :
    s.serveFirstIdle r = (r, r.remaining == 0, s) := by
  obtain ⟨hf, hi⟩ := Option.or_eq_none_iff.1 h
  rw [serveFirstIdle_of_not_faulted hf, serveKnown_of_none hi]
  rfl

/-- The next offer is made in the round of the FAULTED or, where that has no candidate, in that of the
IDLE. -/
theorem nextOffer_cases (h : s.nextOffer r = some p) :
    allCtx.find? (s.knownIn r .faulted) = some p
      ∨ allCtx.find? (s.knownIn r .faulted) = none ∧ allCtx.find? (s.knownIn r .idle) = some p :=
  Option.or_eq_some_iff.1 h

/-- An offer that ends its round, whichever it is, ends the service with what it leaves. -/
theorem serveFirstIdle_of_ending {c : Course} {z : DeliveryRecord × State} (h : s.nextOffer r = some p)
    (hc : c ≠ .goingOn)
    (hz : ∀ ph ps, s.knownIn r ph p = true → s.serveKnown r ph (p :: ps) = (c, z)) :
    s.serveFirstIdle r = (z.1, c == .complete, z.2) := by
  rcases nextOffer_cases h with hf | ⟨hf, hi⟩
  · obtain ⟨ps, hs, hp, -⟩ := serveKnown_of_find hf
    rw [State.serveFirstIdle, hs, hz _ ps hp]
    cases c with
    | goingOn => exact absurd rfl hc
    | complete => rfl
    | stays => rfl
  · obtain ⟨ps, hs, hp, -⟩ := serveKnown_of_find hi
    rw [serveFirstIdle_of_not_faulted hf, hs, hz _ ps hp]
    cases c with
    | goingOn => exact absurd rfl hc
    | complete => rfl
    | stays => rfl

theorem serveFirstIdle_of_taken (h : s.nextOffer r = some p) (ha : (s.ctx p).answer r.delivery = .taken) :
    s.serveFirstIdle r = ((s.offer r p).2.1, true, (s.offer r p).2.2) :=
  serveFirstIdle_of_ending h (by decide) fun _ _ hp => serveKnown_cons_of_taken hp ha

theorem serveFirstIdle_of_waits (h : s.nextOffer r = some p) (ha : (s.ctx p).answer r.delivery = .waits) :
    s.serveFirstIdle r = (r, false, s) :=
  serveFirstIdle_of_ending h (by decide) fun _ _ hp => serveKnown_cons_of_waits hp ha

/-- A refusal leads to the service of what is left of the record. -/
theorem serveFirstIdle_of_refused {why : Reason} (h : s.nextOffer r = some p)
    (ha : (s.ctx p).answer r.delivery = .refused why) :
    s.serveFirstIdle r = (s.afterRefusal r p why).serveFirstIdle (r.without p) := by
  rcases nextOffer_cases h with hf | ⟨hf, hi⟩
  · obtain ⟨ps, hs, hp, hrest⟩ := serveKnown_of_find hf
    rw [State.serveFirstIdle, hs, serveKnown_cons_of_refused hp ha, ← hrest, ← State.serveFirstIdle]
  · obtain ⟨ps, hs, hp, hrest⟩ := serveKnown_of_find hi
    have hleft : allCtx.find? ((s.afterRefusal r p why).knownIn (r.without p) .faulted) = none :=
      List.find?_eq_none.2 fun q hq => by
        rw [knownIn_afterRefusal, Bool.eq_false_iff.2 (List.find?_eq_none.1 hf q hq), Bool.false_and]
        exact Bool.false_ne_true
    rw [serveFirstIdle_of_not_faulted hf, serveFirstIdle_of_not_faulted hleft, hs,
      serveKnown_cons_of_refused hp ha, hrest]

end

/-! ### A GO's service where TRIG knows the candidates rightly (R157) -/

/-- TRIG knows each context to be in the phase in which it stands. -/
def State.KnowsPhases (s : State) : Prop := ∀ p : Ctx, s.trig.known[p] = (s.ctx p).phase

/-- What the refusals of a record's FAULTED candidates make of the record and the part. -/
structure Cleared (s : State) (r : DeliveryRecord) (s1 : State) (r1 : DeliveryRecord) : Prop where
  record : r1 = { r with remaining := r1.remaining }
  remaining : ∀ p, ctxIn p r1.remaining = (ctxIn p r.remaining && (s.ctx p).phase != .faulted)
  ctx : ∀ p, s1.ctx p = s.ctx p
  known : s1.trig.known = s.trig.known
  service : s.serveFirstIdle r = s1.serveFirstIdle r1

theorem answer_of_faulted {c : Context} (h : c.phase = .faulted) (pointer : Option Half) :
    c.answer (.go pointer) = .refused .faulted := by
  cases pointer with
  | none => rw [answer_go_none, h]
  | some field => rw [answer_go_some, h]

theorem State.KnowsPhases.afterRefusal {s : State} (hk : s.KnowsPhases) (r : DeliveryRecord) (p : Ctx)
    (why : Reason) : (s.afterRefusal r p why).KnowsPhases := fun q => by
  rw [afterRefusal_known, afterRefusal_ctx, hk]

section
variable {s s1 : State} {r r1 : DeliveryRecord} {p : Ctx}

/-- With no FAULTED candidate the service goes on from where it stands. -/
theorem cleared_refl (h : ∀ p, ctxIn p r.remaining = true → (s.ctx p).phase ≠ .faulted) :
    Cleared s r s r where
  record := rfl
  remaining p := by
    cases hp : ctxIn p r.remaining with
    | false => rfl
    | true => rw [Bool.true_and, bne_iff_ne.2 (h p hp)]
  ctx _ := rfl
  known := rfl
  service := rfl

theorem Cleared.delivery (h : Cleared s r s1 r1) : r1.delivery = r.delivery := by rw [h.record]

/-- The lowest FAULTED candidate refuses, and the others follow. -/
theorem Cleared.of_refusal {why : Reason} (hn : s.nextOffer r = some p)
    (ha : (s.ctx p).answer r.delivery = .refused why) (hp : (s.ctx p).phase = .faulted)
    (h : Cleared (s.afterRefusal r p why) (r.without p) s1 r1) : Cleared s r s1 r1 where
  record := h.record
  remaining q := by
    rw [h.remaining, ctxIn_without, afterRefusal_ctx]
    by_cases hq : q = p
    · rw [hq, hp]
      simp
    · rw [decide_eq_true hq, Bool.and_true]
  ctx q := (h.ctx q).trans (afterRefusal_ctx why q)
  known := h.known.trans (afterRefusal_known why)
  service := (serveFirstIdle_of_refused hn ha).trans h.service

/-- Each FAULTED candidate of a GO refuses, lowest first. -/
theorem exists_cleared {pointer : Option Half} (hk : s.KnowsPhases) (hd : r.delivery = .go pointer) :
    ∃ s1 r1, Cleared s r s1 r1 := by
  induction hl : allCtx.filter (s.knownIn r .faulted) generalizing s r with
  | nil =>
    have hall : ∀ p, p ∈ allCtx := by decide
    exact ⟨s, r, cleared_refl fun p hp hf =>
      List.filter_eq_nil_iff.1 hl p (hall p) (knownIn_iff.2 ⟨hp, (hk p).trans hf⟩)⟩
  | cons p ps ih =>
    have hfind : allCtx.find? (s.knownIn r .faulted) = some p := by
      rw [← List.head?_filter, hl, List.head?_cons]
    have hf : (s.ctx p).phase = .faulted := (hk p).symm.trans (knownIn_iff.1 (List.find?_some hfind)).2
    have hrest : allCtx.filter ((s.afterRefusal r p .faulted).knownIn (r.without p) .faulted) = ps := by
      have hnodup : (p :: ps).Nodup := hl ▸ allCtx_nodup.filter _
      have hfilter : allCtx.filter ((s.afterRefusal r p .faulted).knownIn (r.without p) .faulted)
          = (allCtx.filter (s.knownIn r .faulted)).filter fun q => decide (q ≠ p) := by
        rw [List.filter_filter]
        exact List.filter_congr fun q _ => (knownIn_afterRefusal _ q).trans (Bool.and_comm _ _)
      rw [hfilter, hl, List.filter_cons_of_neg (by simp)]
      exact List.filter_eq_self.2 fun q hq => decide_eq_true fun hqp =>
        (List.nodup_cons.1 hnodup).1 (hqp ▸ hq)
    obtain ⟨s1, r1, h⟩ := ih (r := r.without p) (hk.afterRefusal r p .faulted) hd hrest
    have hn : s.nextOffer r = some p := by rw [State.nextOffer, hfind, Option.some_or]
    exact ⟨s1, r1, .of_refusal hn (hd ▸ answer_of_faulted hf pointer) hf h⟩

theorem not_faulted_and_idle (ph : Phase) : (ph != .faulted && ph == .idle) = (ph == .idle) := by
  cases ph <;> rfl

/-- The candidates that stand IDLE, lowest first. -/
def State.idleCandidates (s : State) (r : DeliveryRecord) : List Ctx :=
  allCtx.filter fun p => ctxIn p r.remaining && (s.ctx p).phase == .idle

/-- With the FAULTED candidates gone, the next offer is to the lowest that is IDLE. -/
theorem Cleared.nextOffer_eq (h : Cleared s r s1 r1) (hk : s.KnowsPhases) :
    s1.nextOffer r1 = (s.idleCandidates r).head? := by
  have hphase : ∀ ph p, s1.knownIn r1 ph p
      = (ctxIn p r.remaining && (s.ctx p).phase != .faulted && (s.ctx p).phase == ph) := fun ph p => by
    rw [State.knownIn, h.remaining, h.known, hk]
  have hfaulted : allCtx.find? (s1.knownIn r1 .faulted) = none := List.find?_eq_none.2 fun p _ => by
    rw [hphase, Bool.and_assoc, bne, Bool.not_and_self, Bool.and_false]
    exact Bool.false_ne_true
  have hidle : s1.knownIn r1 .idle = fun p => ctxIn p r.remaining && (s.ctx p).phase == .idle :=
    funext fun p => by rw [hphase, Bool.and_assoc, not_faulted_and_idle]
  rw [State.nextOffer, hfaulted, Option.none_or, State.idleCandidates, List.head?_filter, hidle]

theorem Cleared.service_of_no_idle (h : Cleared s r s1 r1) (hk : s.KnowsPhases)
    (hi : s.idleCandidates r = []) : s.serveFirstIdle r = (r1, r1.remaining == 0, s1) := by
  rw [h.service, serveFirstIdle_of_no_offer (by rw [h.nextOffer_eq hk, hi, List.head?_nil])]

theorem Cleared.service_of_idle {rest : List Ctx} (h : Cleared s r s1 r1) (hk : s.KnowsPhases)
    (hi : s.idleCandidates r = p :: rest) (ha : (s.ctx p).answer r.delivery = .taken) :
    s.serveFirstIdle r = ({ r1.without p with taken := r1.taken || r1.delivery.isGo }, true,
      s1.tookOffer r1 p) := by
  have ha1 : (s1.ctx p).answer r1.delivery = .taken := by rw [h.ctx, h.delivery, ha]
  rw [h.service, serveFirstIdle_of_taken (by rw [h.nextOffer_eq hk, hi, List.head?_cons]) ha1,
    offer_of_taken ha1]
  rfl

end

/-- Beside TRIG, a taken offer leaves the part as the delivery did (R139, R155). -/
theorem tookOffer_outside (s : State) (r : DeliveryRecord) (p : Ctx) :
    { s.tookOffer r p with trig := s.trig } = s.deliver p r.delivery := by
  rw [← deliver_trig s p r.delivery, State.tookOffer]
  split
  · unfold State.joinHeldBy
    split
    · split <;> rfl
    · rfl
  · rfl

/-- Settles O45. -/
theorem firstIdleRecordsAreServed : Obligations.FirstIdleRecordsAreServed := by
  refine ⟨fun s r => ?offers, fun s r pointer hd hk =>
    ⟨fun hnone => ?noIdle, fun p rest hi ha => ?idle⟩⟩
  case offers =>
    intro lowest
    have hnext : (lowest .faulted).or (lowest .idle) = s.nextOffer r := rfl
    rw [hnext]
    cases hn : s.nextOffer r with
    | none => exact serveFirstIdle_of_no_offer hn
    | some p =>
      dsimp only
      cases ha : (s.ctx p).answer r.delivery with
      | taken => exact serveFirstIdle_of_taken hn ha
      | waits => exact serveFirstIdle_of_waits hn ha
      | refused why =>
        refine (serveFirstIdle_of_refused hn ha).trans ?_
        rcases r with ⟨source, delivery, mode, remaining, expiry, taken⟩
        cases delivery <;> rfl
  case noIdle =>
    obtain ⟨s1, r1, h⟩ := exists_cleared hk hd
    have hi : s.idleCandidates r = [] := List.filter_eq_nil_iff.2 fun p _ hp => by
      obtain ⟨hin, hidle⟩ := Bool.and_eq_true_iff.1 hp
      exact hnone p hin (beq_iff_eq.1 hidle)
    rw [h.service_of_no_idle hk hi]
    exact ⟨h.remaining, h.ctx, by rw [h.record], beq_iff_eq⟩
  case idle =>
    obtain ⟨s1, r1, h⟩ := exists_cleared hk hd
    rw [h.service_of_idle hk hi ha]
    refine ⟨rfl, by rw [h.delivery, hd]; exact Bool.or_true _, fun q hq => ?others, ?known,
      fun hf => ?effect⟩
    case others =>
      rw [tookOffer_ctx, (ctxStep_deliver p s1 _).ctx q hq, h.ctx]
    case known => rw [tookOffer_known, if_pos rfl]
    case effect =>
      have hservice := (cleared_refl hf).service_of_idle hk hi ha
      rw [h.service_of_idle hk hi ha] at hservice
      have hs1 : s1.tookOffer r1 p = s.tookOffer r p := congrArg (·.2.2) hservice
      have hgo : s.deliver p r.delivery = s.takeGo p pointer := by rw [hd]; rfl
      rw [hs1, ← hgo, ← tookOffer_outside]
      exact ⟨rfl, rfl, rfl⟩

end Sys2Proof.Machine
end

section
/-! The queue of replies and notices, and the state right after reset (O3, O4). -/

namespace Sys2Proof.Machine

/-- A notice joins the outbound queue's tail with the tick stamp, or is discarded with the overflow flag set
(R166, R185, R186). -/
theorem notify_eq_ite (s : State) (n : Notice) : s.notify n = { s with link :=
    if Config.noticeSlots ≤ s.link.notices then { s.link with overflow := true }
    else { s.link with outbound := s.link.outbound ++ [.notice s.clk.stamp n],
                       sending := s.link.sending || !s.link.hold } } := by
  unfold State.notify
  split
  · rfl
  · simp only [State.modLink, Link.enqueue, Link.begin_]
    cases s.link.hold <;> simp

/-- Settles O4. -/
theorem repliesAndNoticesAreQueued : Obligations.RepliesAndNoticesAreQueued :=
  fun s => ⟨reply_eq s, notify_eq_ite s⟩

/-! ### The reset state -/

/-- State.reset is itself what a POWER reset makes of it. -/
theorem reset_eq_partReset : State.reset = State.reset.partReset .power := rfl

theorem still_reset : State.reset.Still := reset_eq_partReset ▸ still_partReset State.reset .power

theorem reset_mixCh (ch : Chan) : State.reset.mixCh ch = .reset := by
  simp [State.reset, State.afterReset, State.mixCh, Mixer.reset]

theorem reset_outCh (ch : Chan) : State.reset.outCh ch = .reset := by
  simp [State.reset, State.afterReset, State.outCh, Output.reset]

theorem reset_ctx (p : Ctx) : State.reset.ctx p = .reset := by
  simp [State.reset, State.afterReset, State.ctx]

theorem reset_trigger (l : Line) : State.reset.trigger l = .reset := by
  simp [State.reset, State.afterReset, State.trigger, TriggerUnit.reset]

/-- In a reset nobody has asked for the port (R17). -/
theorem portSound_reset : State.reset.portSound := by
  refine ⟨List.Perm.refl _, fun _ c => ?_⟩
  cases c with
  | ctx p => simp only [State.waitsAtPort, reset_ctx, Context.reset]
  | link => rfl

theorem pairsSound_reset : State.reset.pairsSound := by
  refine ⟨fun ch _ => ?_, fun ch => ?_⟩
  · rw [reset_outCh]
    decide
  · rw [reset_outCh, reset_outCh]
    exact (Bool.and_false _).symm

/-- A channel without claims stands at level 0, with the linear curve's duty of 0 (R97, R100, R108). -/
theorem levelsSound_reset : State.reset.levelsSound := by
  refine ⟨fun ch _ => ?_, fun ch => ?_⟩
  · rw [reset_mixCh]
    exact ⟨rfl, rfl⟩
  · rw [reset_mixCh, reset_outCh]
    exact ⟨rfl, fun _ => ⟨rfl, rfl⟩⟩

/-- Settles O3. -/
theorem resetStateIsAsGiven : Obligations.ResetStateIsAsGiven := by
  refine ⟨rfl, rfl, reset_ctx, fun k => by simp [State.reset, State.afterReset], rfl, still_reset.curves,
    reset_mixCh, fun ch => by rw [reset_outCh]; exact ⟨rfl, rfl, rfl, rfl, rfl, rfl⟩, ?_, ?_, ?_,
    reset_trigger, ?_, rfl, ?_, rfl, rfl, rfl, rfl, rfl, fun _ _ => rfl, ⟨rfl, fun _ h => nomatch h⟩,
    portSound_reset, ⟨Nat.zero_le _, List.nodup_nil⟩, ⟨Nat.zero_le _, Nat.zero_le _, trivial⟩,
    pairsSound_reset, levelsSound_reset, (quietBeforeRunning_iff _).2 fun _ => still_reset,
    still_reset.heldSound⟩
  all_goals
    intro k
    simp [State.reset, State.afterReset, Output.reset, TriggerUnit.reset, Group.default, Matcher.reset]

end Sys2Proof.Machine
end

section
/-! The arrival of frames and the move of a buffered one (O55). -/

namespace Sys2Proof.Machine

/-- In a reset the link takes nothing (R169). -/
theorem frameArrives_of_isInReset {s : State} (h : s.isInReset = true) (f : InFrame) :
    s.frameArrives f = s := if_pos h

/-- The three ends of an arriving frame: dropped, served, or buffered (R181, R184). -/
theorem frameArrives_eq_ite {s : State} (h : s.isInReset = false) (f : InFrame) : s.frameArrives f =
    if (Config.replySlots ≤ s.link.replies ∧ s.clk.resetPending = false) ∨ s.link.buffered ≠ none then
      { s with link := { s.link with dropped := true } }
    else if s.link.service = none ∧ s.clk.resetPending = false then s.bringIntoService f
    else { s with link := { s.link with buffered := some f } } := by
  unfold State.frameArrives
  rw [if_neg (by rw [h]; exact Bool.false_ne_true)]
  refine if_congr ?_ rfl (if_congr ?_ rfl rfl)
  · rw [Bool.or_eq_true, Bool.and_eq_true, decide_eq_true_eq, Bool.not_eq_true', Option.isSome_iff_ne_none]
  · rw [Bool.and_eq_true, Option.isNone_iff_eq_none, Bool.not_eq_true']

theorem bringIntoService_of_not_running {s : State} (h : s.isRunning = false) (r : Request) :
    s.bringIntoService (.request r) = s.reply (.refuse r.kind .starting) := by
  have hr : ¬ (s.serving r).isRunning = true := fun hs => Bool.false_ne_true (h.symm.trans hs)
  exact if_neg hr

/-- The move of a buffered frame is its arrival at a part whose buffered place is empty (R183). -/
theorem moveBuffered_eq_frameArrives {s : State} (h : s.isInReset = false) (hs : s.link.service = none)
    (hp : s.clk.resetPending = false) (hr : s.link.replies < Config.replySlots) (f : InFrame) :
    s.moveBuffered f = State.frameArrives { s with link := { s.link with buffered := none } } f := by
  let u : State := { s with link := { s.link with buffered := none } }
  have hroom : ¬ ((Config.replySlots ≤ u.link.replies ∧ u.clk.resetPending = false)
      ∨ u.link.buffered ≠ none) :=
    not_or.2 ⟨fun hle => Nat.not_le.2 hr hle.1, fun hb => hb rfl⟩
  rw [frameArrives_eq_ite (s := u) h, if_neg hroom, if_pos ⟨hs, hp⟩]
  rfl

theorem exec_bufferedRequestMove {s : State} {f : InFrame} (h : s.isInReset = false)
    (hs : s.link.service = none) (hb : s.link.buffered = some f) (hp : s.clk.resetPending = false)
    (hr : s.link.replies < Config.replySlots) :
    exec .bufferedRequestMove s = .next (s.moveBuffered f) := by
  have hm : s.movable = some f := by simp [State.movable, h, hs, hb, hp, hr]
  show execBufferedRequestMove s = _
  rw [execBufferedRequestMove, hm]

/-- Settles O55. -/
theorem framesArrive : Obligations.FramesArrive := by
  refine ⟨fun s r => exec_requestCommand r s, fun s f => ⟨fun h => frameArrives_of_isInReset h f,
    fun h => frameArrives_eq_ite h f, fun _ _ => rfl, fun r h => bringIntoService_of_not_running h r,
    fun h hs hb hp hr => ?_⟩⟩
  rw [exec_bufferedRequestMove h hs hb hp hr, moveBuffered_eq_frameArrives h hs hp hr]

end Sys2Proof.Machine
end

section
/-! The stamp, which nothing but a tick or a reset changes, SET_TICK, and the tick (O49). -/

namespace Sys2Proof.Machine

/-! ### Requests leave the stamp -/

section
variable (s : State)

theorem startLinkOp_clk (op : LinkOp) : (s.startLinkOp op).clk = s.clk := (keeps_arbitrate _).clk

theorem setSource_clk (k : Fin 2) (f : FaultSource) : (s.setSource k f).clk = s.clk := by
  unfold State.setSource
  dsimp only
  split
  · rfl
  · rw [(keeps_notify _ _).clk]
    split <;> rfl

theorem configureChannel_clk (ch : Chan) (cfg : ChannelConfig) :
    (s.configureChannel ch cfg).clk = s.clk :=
  ((keeps_takeAllGone _ _).clk.trans (mixOnly_outConfig _ ch cfg).clk).trans (mixOnly_mixConfig s ch cfg).clk

theorem takeGoRequest_clk (r : Request) (c : Byte) (ptr : Option Half) :
    (s.takeGoRequest r c ptr).clk = s.clk := by
  unfold State.takeGoRequest
  split
  · rfl
  · split
    · exact (keeps_takeGo (s.ack r) _ ptr).clk
    all_goals rfl

theorem takePauseRequest_clk (c : Byte) : (s.takePauseRequest c).clk = s.clk := by
  unfold State.takePauseRequest
  dsimp only
  split
  · rfl
  · split <;> rfl

theorem takeResumeRequest_clk (c : Byte) : (s.takeResumeRequest c).clk = s.clk := by
  unfold State.takeResumeRequest
  dsimp only
  split
  · rfl
  · split
    · exact (keeps_takeResume (s.ack _) _ _ _).clk
    · rfl

theorem takeStopRequest_clk (c : Byte) : (s.takeStopRequest c).clk = s.clk := by
  unfold State.takeStopRequest
  dsimp only
  split
  · rfl
  · exact (keeps_takeStop (s.ack _) _).clk

theorem takeReleaseRequest_clk (c : Byte) (f : Half) : (s.takeReleaseRequest c f).clk = s.clk := by
  unfold State.takeReleaseRequest
  dsimp only
  split
  · rfl
  · split
    · rfl
    · split
      · rfl
      · exact (keeps_takeRelease (s.ack _) _ _).clk

theorem takeConfigContext_clk (c : Byte) (h : Half) (r : Byte) :
    (s.takeConfigContext c h r).clk = s.clk := by
  unfold State.takeConfigContext
  dsimp only
  split
  · rfl
  · exact (keeps_examine _).clk

theorem takeSetLevel_clk (c l : Byte) (f : Half) (p : Byte) : (s.takeSetLevel c l f p).clk = s.clk := by
  unfold State.takeSetLevel
  dsimp only
  split
  · split_ifs
    · rfl
    · rfl
    · exact (mixOnly_claimArrives (s.ack _) _ _ _ _ _).clk
  · rfl

theorem takeReleaseLevel_clk (c : Byte) (f : Half) : (s.takeReleaseLevel c f).clk = s.clk := by
  unfold State.takeReleaseLevel
  dsimp only
  split
  · rfl
  · split_ifs
    · rfl
    · rfl
    · exact (mixOnly_releaseLink (s.ack _) _ _).clk

theorem takeConfigChannel_clk (c : Byte) (e : ChannelEntry) : (s.takeConfigChannel c e).clk = s.clk := by
  unfold State.takeConfigChannel
  dsimp only
  split
  · rfl
  · split
    · rfl
    · exact configureChannel_clk (s.ack _) _ _

theorem takeConfigFault_clk (k m : Byte) : (s.takeConfigFault k m).clk = s.clk := by
  unfold State.takeConfigFault
  dsimp only
  split
  · exact setSource_clk (s.ack _) _ _
  · rfl

theorem takeClearFault_clk (k : Byte) : (s.takeClearFault k).clk = s.clk := by
  unfold State.takeClearFault
  dsimp only
  split
  · rfl
  · split
    · rfl
    · exact setSource_clk (s.ack _) _ _

theorem configureGroup_clk (g : Fin 3) (v : Group) : (s.configureGroup g v).clk = s.clk := by
  unfold State.configureGroup
  dsimp only
  rw [(keeps_examine _).clk]
  split
  · exact (Keeps.foldl keeps_testLevel _ _).clk
  · rfl

theorem takeConfigGroup_clk (g : Byte) (e : GroupEntry) : (s.takeConfigGroup g e).clk = s.clk := by
  unfold State.takeConfigGroup
  dsimp only
  split
  · exact configureGroup_clk (s.ack _) _ _
  · rfl

theorem takeConfigTrigger_clk (l : Byte) (e : TriggerEntry) : (s.takeConfigTrigger l e).clk = s.clk := by
  unfold State.takeConfigTrigger
  dsimp only
  split
  · exact (keeps_examine _).clk.trans (keeps_testLevel _ _).clk
  · rfl

theorem takeConfigMatcher_clk (m : Byte) (e : MatcherEntry) : (s.takeConfigMatcher m e).clk = s.clk := by
  unfold State.takeConfigMatcher
  dsimp only
  split
  · exact (keeps_examine _).clk
  · rfl

theorem takeStoreRead_clk (a : Half) (n : Byte) : (s.takeStoreRead a n).clk = s.clk := by
  unfold State.takeStoreRead
  dsimp only
  split_ifs
  iterate 3 rfl
  exact startLinkOp_clk s _

theorem takeStoreProgram_clk (w : Half) (d : List Byte) : (s.takeStoreProgram w d).clk = s.clk := by
  unfold State.takeStoreProgram
  dsimp only
  split_ifs
  iterate 4 rfl
  exact startLinkOp_clk (s.ack _) _

theorem takeEraseFrame_clk (f : Byte) : (s.takeEraseFrame f).clk = s.clk := by
  unfold State.takeEraseFrame
  dsimp only
  split_ifs
  iterate 4 rfl
  exact startLinkOp_clk (s.ack _) _

theorem takeEraseAll_clk : s.takeEraseAll.clk = s.clk := by
  unfold State.takeEraseAll
  split_ifs
  iterate 2 rfl
  exact startLinkOp_clk (s.ack _) _

theorem takeReloadCurves_clk : s.takeReloadCurves.clk = s.clk := by
  unfold State.takeReloadCurves
  split_ifs
  · rfl
  · exact startLinkOp_clk s _

theorem takeWriteEnable_clk (m k : Half) : (s.takeWriteEnable m k).clk = s.clk := by
  unfold State.takeWriteEnable
  dsimp only
  split_ifs <;> rfl

theorem takeQueryContext_clk (c : Byte) : (s.takeQueryContext c).clk = s.clk := by
  unfold State.takeQueryContext
  split <;> rfl

theorem takeQueryChannel_clk (c : Byte) : (s.takeQueryChannel c).clk = s.clk := by
  unfold State.takeQueryChannel
  split <;> rfl

theorem takeQueryTrigger_clk (l : Byte) : (s.takeQueryTrigger l).clk = s.clk := by
  unfold State.takeQueryTrigger
  split <;> rfl

theorem takePostEvent_clk (e : Byte) : (s.takePostEvent e).clk = s.clk := by
  unfold State.takePostEvent
  dsimp only
  split <;> rfl

theorem takeSetCounter_clk (c v : Byte) : (s.takeSetCounter c v).clk = s.clk := by
  unfold State.takeSetCounter
  dsimp only
  split <;> rfl

/-- SET_TICK is one of the two requests that touch the clock, and takes the tick code alone (R167). -/
theorem takeSetTick_stamp (c : Byte) : (s.takeSetTick c).clk.stamp = s.clk.stamp := by
  unfold State.takeSetTick
  dsimp only
  split <;> rfl

/-- No request changes the stamp (R166). -/
theorem takeRequest_stamp (r : Request) : (s.takeRequest r).clk.stamp = s.clk.stamp := by
  cases r with
  | setTick c => exact takeSetTick_stamp s c
  | resetPart => rfl
  | storeRead a n => exact congrArg _ (takeStoreRead_clk s a n)
  | storeProgram w d => exact congrArg _ (takeStoreProgram_clk s w d)
  | storeEraseFrame f => exact congrArg _ (takeEraseFrame_clk s f)
  | storeEraseAll => exact congrArg _ (takeEraseAll_clk s)
  | setWriteEnable m k => exact congrArg _ (takeWriteEnable_clk s m k)
  | go c => exact congrArg _ (takeGoRequest_clk s _ c _)
  | goWithPointer c p => exact congrArg _ (takeGoRequest_clk s _ c _)
  | pause c => exact congrArg _ (takePauseRequest_clk s c)
  | resume c => exact congrArg _ (takeResumeRequest_clk s c)
  | stop c => exact congrArg _ (takeStopRequest_clk s c)
  | release c f => exact congrArg _ (takeReleaseRequest_clk s c f)
  | configContext c h f => exact congrArg _ (takeConfigContext_clk s c h f)
  | queryContext c => exact congrArg _ (takeQueryContext_clk s c)
  | postEvent e => exact congrArg _ (takePostEvent_clk s e)
  | setCounter c v => exact congrArg _ (takeSetCounter_clk s c v)
  | queryCounters => rfl
  | setLevel c l f p => exact congrArg _ (takeSetLevel_clk s c l f p)
  | releaseLevel c f => exact congrArg _ (takeReleaseLevel_clk s c f)
  | queryChannel c => exact congrArg _ (takeQueryChannel_clk s c)
  | reloadCurves => exact congrArg _ (takeReloadCurves_clk s)
  | configChannel c e => exact congrArg _ (takeConfigChannel_clk s c e)
  | configFault k m => exact congrArg _ (takeConfigFault_clk s k m)
  | clearFault k => exact congrArg _ (takeClearFault_clk s k)
  | configGroup g e => exact congrArg _ (takeConfigGroup_clk s g e)
  | configTrigger l e => exact congrArg _ (takeConfigTrigger_clk s l e)
  | queryTrigger l => exact congrArg _ (takeQueryTrigger_clk s l)
  | configMatcher m e => exact congrArg _ (takeConfigMatcher_clk s m e)
  | queryQueue => rfl
  | identify => rfl
  | status => rfl

theorem bringIntoService_stamp (f : InFrame) : (s.bringIntoService f).clk.stamp = s.clk.stamp := by
  unfold State.bringIntoService State.serve
  split
  · rfl
  · next r =>
    split
    · exact takeRequest_stamp (s.modLink _) r
    · rfl

theorem frameArrives_stamp (f : InFrame) : (s.frameArrives f).clk.stamp = s.clk.stamp := by
  unfold State.frameArrives
  split_ifs
  · rfl
  · rfl
  · exact bringIntoService_stamp s f
  · rfl

theorem moveBuffered_stamp (f : InFrame) : (s.moveBuffered f).clk.stamp = s.clk.stamp :=
  bringIntoService_stamp (s.modLink _) f

theorem takeCharacter_stamp (b : Byte) (stop : Bool) :
    (s.takeCharacter b stop).clk.stamp = s.clk.stamp := by
  rcases takeCharacter_cases s b stop with h | ⟨v, h⟩ | ⟨f, h⟩
  · rw [h]
  · rw [h]; rfl
  · rw [h]; exact frameArrives_stamp (s.setReceiver .hunt) f

/-! ### The other commands -/

theorem completeRead_clk (a : Half) (n : Byte) : (s.completeRead a n).clk = s.clk := (keeps_arbitrate _).clk

/-- A program or an erase ends with its notice, and the port passes on. -/
theorem notify_arbitrate_clk (n : Notice) : (s.notify n).arbitrate.clk = s.clk :=
  (keeps_arbitrate _).clk.trans (keeps_notify s n).clk

theorem completeProgram_clk (w : Nat) (d : List Byte) : (s.completeProgram w d).clk = s.clk := by
  refine (notify_arbitrate_clk (ite _ _ _) _).trans ?_
  split <;> rfl

theorem completeEraseFrame_clk (f : Nat) : (s.completeEraseFrame f).clk = s.clk := by
  refine (notify_arbitrate_clk (ite _ _ _) _).trans ?_
  split <;> rfl

theorem completeEraseAll_clk : s.completeEraseAll.clk = s.clk :=
  notify_arbitrate_clk (s.endLinkOp.setCells []).testLock _

theorem completeReload_clk : s.completeReload.clk = s.clk := by
  have hfill : (s.endLinkOp.fillCurves (loadedSlots s.store.cells)).clk = s.clk :=
    (mixOnly_fillCurves s.endLinkOp _).clk
  unfold State.completeReload
  rw [(keeps_arbitrate _).clk]
  exact hfill

theorem tickPlay_clk : s.tickPlay.clk = s.clk :=
  (keeps_foldl_endCount _ _).clk.trans (keeps_anyOrder s.countContexts _).clk

theorem takeTrigTick_clk : s.takeTrigTick.clk = s.clk := (offerKeeps_clk s.clk).tickTrig rfl

theorem endStartUp_stamp (valid : Bool) : (s.endStartUp valid).clk.stamp = s.clk.stamp := by
  have hend : s.endStartUp valid = (s.started valid).autostart.examine := rfl
  rw [hend, (keeps_examine _).clk, autostart_clk, started_clk]

theorem completeStartUp_stamp (valid : Bool) : (s.completeStartUp valid).clk.stamp = s.clk.stamp := by
  unfold State.completeStartUp
  dsimp only
  split
  · exact (moveBuffered_stamp _ _).trans (endStartUp_stamp s valid)
  · exact endStartUp_stamp s valid

end

/-- Every next state that an outcome can have has a property. -/
def EveryNext (P : State → Prop) (o : Host.Outcome State Fault Refusal) : Prop := ∀ t, o = .next t → P t

theorem everyNext_next {P : State → Prop} {t : State} (h : P t) : EveryNext P (.next t) :=
  fun _ e => by cases e; exact h

theorem everyNext_cannotOccur (P : State → Prop) (m : String) : EveryNext P (cannotOccur m) :=
  fun _ e => by cases e

theorem everyNext_ite {P : State → Prop} {c : Prop} [Decidable c] {t : State} {m : String} (h : P t) :
    EveryNext P (if c then .next t else cannotOccur m) :=
  fun _ e => next_of_ite e ▸ h

/-- The stamp stands, or the part is in a reset with the stamp 0 (R166, R168). -/
def StampStands (s t : State) : Prop :=
  t.clk.stamp = s.clk.stamp ∨ (t.isInReset = true ∧ t.clk.stamp = 0)

theorem StampStands.of_clk {s t : State} (h : t.clk = s.clk) : StampStands s t := .inl (congrArg _ h)

theorem stampStands_partReset (s : State) (cause : ResetCause) : StampStands s (s.partReset cause) :=
  .inr ⟨rfl, rfl⟩

section
variable (s : State)

theorem stampStands_requestCommand (r : Request) :
    EveryNext (StampStands s) (exec (requestCommand r) s) := by
  rw [exec_requestCommand]
  exact everyNext_next (.inl (frameArrives_stamp s _))

theorem stampStands_storeReadComplete : EveryNext (StampStands s) (exec .storeReadComplete s) := by
  show EveryNext _ (execStoreReadComplete s)
  unfold execStoreReadComplete
  split
  · exact everyNext_next (.of_clk (completeRead_clk s _ _))
  · exact everyNext_cannotOccur _ _

theorem stampStands_storeProgramComplete : EveryNext (StampStands s) (exec .storeProgramComplete s) := by
  show EveryNext _ (execStoreProgramComplete s)
  unfold execStoreProgramComplete
  split
  · exact everyNext_next (.of_clk (completeProgram_clk s _ _))
  · exact everyNext_cannotOccur _ _

theorem stampStands_eraseFrameComplete : EveryNext (StampStands s) (exec .eraseFrameComplete s) := by
  show EveryNext _ (execEraseFrameComplete s)
  unfold execEraseFrameComplete
  split
  · exact everyNext_next (.of_clk (completeEraseFrame_clk s _))
  · exact everyNext_cannotOccur _ _

theorem stampStands_eraseAllComplete : EveryNext (StampStands s) (exec .eraseAllComplete s) := by
  show EveryNext _ (execEraseAllComplete s)
  unfold execEraseAllComplete
  split
  · exact everyNext_next (.of_clk (completeEraseAll_clk s))
  · exact everyNext_cannotOccur _ _

theorem stampStands_curveLoadComplete : EveryNext (StampStands s) (exec .curveLoadComplete s) := by
  show EveryNext _ (execCurveLoadComplete s)
  unfold execCurveLoadComplete
  split
  · exact everyNext_next (.of_clk (completeReload_clk s))
  · exact everyNext_cannotOccur _ _

theorem stampStands_linkStepReadComplete : EveryNext (StampStands s) (exec .linkStepReadComplete s) := by
  show EveryNext _ (execLinkStepReadComplete s)
  unfold execLinkStepReadComplete
  split
  · exact everyNext_next (.of_clk (keeps_completeFetch s _ _ _ _).clk)
  · exact everyNext_cannotOccur _ _

theorem stampStands_probeReadComplete : EveryNext (StampStands s) (exec .probeReadComplete s) := by
  show EveryNext _ (execProbeReadComplete s)
  unfold execProbeReadComplete
  split
  · exact everyNext_next (.of_clk (keeps_completeFetch s _ _ _ _).clk)
  · exact everyNext_cannotOccur _ _

theorem stampStands_recordReadComplete : EveryNext (StampStands s) (exec .recordReadComplete s) := by
  show EveryNext _ (execRecordReadComplete s)
  unfold execRecordReadComplete
  split
  · exact everyNext_next (.of_clk (keeps_completeFetch s _ _ _ _).clk)
  · exact everyNext_cannotOccur _ _

theorem stampStands_phaseReport (p : Ctx) : EveryNext (StampStands s) (exec (.phaseReport p) s) := by
  show EveryNext _ (execPhaseReport p s)
  unfold execPhaseReport
  split
  · exact everyNext_next (.of_clk (keeps_takeReport _ _).clk)
  · exact everyNext_cannotOccur _ _

/-- The frame that left may have been the ACK of a RESET_PART (R170). -/
theorem stampStands_frameTransmitted : EveryNext (StampStands s) (exec .frameTransmitted s) := by
  show EveryNext _ (execFrameTransmitted s)
  unfold execFrameTransmitted
  split
  · refine everyNext_next ?_
    unfold State.frameSent
    split
    · exact stampStands_partReset s _
    · exact .of_clk rfl
  · exact everyNext_cannotOccur _ _

theorem stampStands_bufferedRequestMove : EveryNext (StampStands s) (exec .bufferedRequestMove s) := by
  show EveryNext _ (execBufferedRequestMove s)
  unfold execBufferedRequestMove
  split
  · exact everyNext_next (.inl (moveBuffered_stamp s _))
  · exact everyNext_cannotOccur _ _

theorem stampStands_resetEnd (b : Bool) : EveryNext (StampStands s) (exec (.resetEnd b) s) := by
  show EveryNext _ (execResetEnd b s)
  unfold execResetEnd
  split
  · exact everyNext_next (.inl rfl)
  · exact everyNext_cannotOccur _ _

theorem stampStands_headerReadComplete : EveryNext (StampStands s) (exec .headerReadComplete s) := by
  show EveryNext _ (execHeaderReadComplete s)
  unfold execHeaderReadComplete
  split
  · exact everyNext_next (.inl rfl)
  · exact everyNext_cannotOccur _ _

theorem stampStands_startUpCurveLoadComplete :
    EveryNext (StampStands s) (exec .startUpCurveLoadComplete s) := by
  show EveryNext _ (execStartUpCurveLoadComplete s)
  unfold execStartUpCurveLoadComplete
  split
  · exact everyNext_next (.inl (completeStartUp_stamp s _))
  · exact everyNext_cannotOccur _ _

/-- Every command but a tick leaves the stamp, or resets the part (R166). -/
theorem stampStands_of_ne_tick {c : Instr} (hc : c ≠ .tick) : EveryNext (StampStands s) (exec c s) := by
  cases c with
  | storeRead a n => exact stampStands_requestCommand s (.storeRead a n)
  | storeProgram w d => exact stampStands_requestCommand s (.storeProgram w d)
  | storeEraseFrame f => exact stampStands_requestCommand s (.storeEraseFrame f)
  | storeEraseAll => exact stampStands_requestCommand s .storeEraseAll
  | setWriteEnable m k => exact stampStands_requestCommand s (.setWriteEnable m k)
  | go p => exact stampStands_requestCommand s (.go p)
  | goWithPointer p f => exact stampStands_requestCommand s (.goWithPointer p f)
  | pause p => exact stampStands_requestCommand s (.pause p)
  | resume p => exact stampStands_requestCommand s (.resume p)
  | stop p => exact stampStands_requestCommand s (.stop p)
  | release p f => exact stampStands_requestCommand s (.release p f)
  | configContext p f r => exact stampStands_requestCommand s (.configContext p f r)
  | queryContext p => exact stampStands_requestCommand s (.queryContext p)
  | postEvent e => exact stampStands_requestCommand s (.postEvent e)
  | setCounter k v => exact stampStands_requestCommand s (.setCounter k v)
  | queryCounters => exact stampStands_requestCommand s .queryCounters
  | setLevel ch l f p => exact stampStands_requestCommand s (.setLevel ch l f p)
  | releaseLevel ch f => exact stampStands_requestCommand s (.releaseLevel ch f)
  | queryChannel ch => exact stampStands_requestCommand s (.queryChannel ch)
  | reloadCurves => exact stampStands_requestCommand s .reloadCurves
  | configChannel ch e => exact stampStands_requestCommand s (.configChannel ch e)
  | configFault k m => exact stampStands_requestCommand s (.configFault k m)
  | clearFault k => exact stampStands_requestCommand s (.clearFault k)
  | configGroup g e => exact stampStands_requestCommand s (.configGroup g e)
  | configTrigger l e => exact stampStands_requestCommand s (.configTrigger l e)
  | queryTrigger l => exact stampStands_requestCommand s (.queryTrigger l)
  | configMatcher m e => exact stampStands_requestCommand s (.configMatcher m e)
  | queryQueue => exact stampStands_requestCommand s .queryQueue
  | setTick k => exact stampStands_requestCommand s (.setTick k)
  | resetPart => exact stampStands_requestCommand s .resetPart
  | identify => exact stampStands_requestCommand s .identify
  | status => exact stampStands_requestCommand s .status
  | storeReadComplete => exact stampStands_storeReadComplete s
  | storeProgramComplete => exact stampStands_storeProgramComplete s
  | eraseFrameComplete => exact stampStands_eraseFrameComplete s
  | eraseAllComplete => exact stampStands_eraseAllComplete s
  | curveLoadComplete => exact stampStands_curveLoadComplete s
  | linkStepReadComplete => exact stampStands_linkStepReadComplete s
  | probeReadComplete => exact stampStands_probeReadComplete s
  | recordReadComplete => exact stampStands_recordReadComplete s
  | tick => exact absurd rfl hc
  | tickArrivalPlay => exact everyNext_ite (.of_clk (tickPlay_clk s))
  | tickArrivalMix => exact everyNext_ite (.of_clk (keeps_mixTicked s _).clk)
  | tickArrivalTrig => exact everyNext_ite (.of_clk (takeTrigTick_clk s))
  | fadeComplete p => exact everyNext_ite (.of_clk (keeps_endCount s p).clk)
  | holdExpiry p => exact everyNext_ite (.of_clk (keeps_endCount s p).clk)
  | waitTimeout p => exact everyNext_ite (.of_clk (keeps_endCount s p).clk)
  | releaseFadeEnd ch who => exact everyNext_ite (.of_clk (keeps_mixTicked s _).clk)
  | gapLapse m => exact everyNext_ite (.of_clk (takeTrigTick_clk s))
  | recordExpiry src => exact everyNext_ite (.of_clk (takeTrigTick_clk s))
  | post p e => exact everyNext_ite (.of_clk (keeps_takePost _ p e).clk)
  | phaseReport p => exact stampStands_phaseReport s p
  | acceptedChange l high =>
    exact everyNext_ite (.of_clk ((offerKeeps_clk s.clk).acceptChange rfl l high))
  | firstSample l high =>
    exact everyNext_ite (.of_clk ((offerKeeps_clk s.clk).takeFirstSample rfl l high))
  | faultInputChange k a => exact everyNext_ite (.of_clk (setSource_clk s k _))
  | periodStart ch => exact everyNext_ite (.of_clk (mixOnly_startPeriod s ch).clk)
  | byteArrival b stop => exact everyNext_next (.inl (takeCharacter_stamp s b stop))
  | gapExpiry => exact everyNext_ite (.inl (frameArrives_stamp (s.setReceiver .hunt) _))
  | frameTransmitted => exact stampStands_frameTransmitted s
  | holdChange high => exact everyNext_next (.of_clk rfl)
  | bufferedRequestMove => exact stampStands_bufferedRequestMove s
  | powerReset => exact everyNext_next (stampStands_partReset s _)
  | pinReset => exact everyNext_next (stampStands_partReset s _)
  | resetEnd b => exact stampStands_resetEnd s b
  | headerReadComplete => exact stampStands_headerReadComplete s
  | startUpCurveLoadComplete => exact stampStands_startUpCurveLoadComplete s
  | lineSample l high => exact everyNext_ite (.of_clk rfl)

end

/-! ### SET_TICK and the tick (R165, R167) -/

theorem takeSetTick_of_code (s : State) {n : Byte} {k : Fin 4} (h : n.toNat = k.val) :
    s.takeSetTick n = (s.ack (.setTick n)).modClk fun c => { c with tickCode := k } := by
  simp only [State.takeSetTick, byteFin_eq_some h]

theorem takeSetTick_of_bad (s : State) {n : Byte} (h : 3 < n.toNat) :
    s.takeSetTick n = s.refuse (.setTick n) .badField := by
  simp only [State.takeSetTick, byteFin_eq_none (n := 4) h]

/-- Settles O49. -/
theorem ticksAndRates : Obligations.TicksAndRates := by
  refine ⟨fun s n h => ⟨fun k hk => ?code, fun hn => ?bad⟩, fun s h => if_pos h, fun s h t ht => ?stopped,
    rfl, fun c s t h hc => stampStands_of_ne_tick s hc t h⟩
  case code =>
    exact (exec_of_accepts h (.setTick n)).trans (congrArg _ (takeSetTick_of_code _ hk))
  case bad =>
    exact (exec_of_accepts h (.setTick n)).trans (congrArg _ (takeSetTick_of_bad _ hn))
  case stopped =>
    obtain ⟨hr, -⟩ := of_next_ite ht
    exact Bool.false_ne_true (h.symm.trans hr)

end Sys2Proof.Machine
end

section
/-! The receiver: the decoding of a frame, its checks, and the bytes it takes (O53). -/

namespace Sys2Proof.Machine

/-! ### Decoding (R178; sections 11.2.1, 11.3) -/

theorem lowByte_halfOf (lo hi : Byte) : lowByte (halfOf lo hi) = lo := by
  apply BitVec.eq_of_toNat_eq
  rw [lowByte, BitVec.toNat_setWidth, halfOf_toNat]
  omega

theorem highByte_halfOf (lo hi : Byte) : highByte (halfOf lo hi) = hi := by
  apply BitVec.eq_of_toNat_eq
  rw [highByte, BitVec.toNat_setWidth, BitVec.toNat_ushiftRight, halfOf_toNat, Nat.shiftRight_eq_div_pow]
  omega

/-- A list of a known length, written out by its items. -/
theorem eq_ofFn_of_length {α : Type} {l : List α} {n : Nat} (h : l.length = n) :
    ∃ f : Fin n → α, l = List.ofFn f := by
  subst h
  exact ⟨l.get, (List.ofFn_get l).symm⟩

/-- A kind that is no request's is BAD_KIND. -/
theorem decode_of_bad_kind {kind : Byte} (h : kind.toNat = 0 ∨ 31 < kind.toNat) (body : List Byte) :
    Request.decode kind body = .badKind := by
  unfold Request.decode
  split
  case h_32 => rfl
  all_goals omega

theorem decode_ne_badKind {kind : Byte} (h : ¬ (kind.toNat = 0 ∨ 31 < kind.toNat)) (body : List Byte) :
    Request.decode kind body ≠ .badKind := by
  unfold Request.decode
  split
  case h_32 =>
    exfalso
    simp only [imp_false] at *
    omega
  all_goals split <;> nofun

/-- A body of a length that its kind allows is a request's: of a fixed length but for STORE_PROGRAM, whose
data has any, and GO, with its pointer field or without. -/
theorem decode_of_lengthAllowed {kind : Byte} {body : List Byte}
    (h : lengthAllowed kind body.length = true) : ∃ r, Request.decode kind body = .request r := by
  unfold lengthAllowed at h
  split at h
  case h_2 hk =>
    unfold Request.decode
    rw [hk]
    match body, of_decide_eq_true h with
    | _ :: _ :: _, _ => exact ⟨_, rfl⟩
  case h_6 hk =>
    unfold Request.decode
    rw [hk]
    rcases (Bool.or_eq_true _ _).mp h with h | h
    all_goals
      obtain ⟨f, rfl⟩ := eq_ofFn_of_length (beq_iff_eq.1 h)
      exact ⟨_, rfl⟩
  case h_32 => cases h
  all_goals
    next hk =>
    unfold Request.decode
    rw [hk]
    obtain ⟨f, rfl⟩ := eq_ofFn_of_length (beq_iff_eq.1 h)
    exact ⟨_, rfl⟩

/-- A request that decodes has the frame's kind, a length that the kind allows, and the frame's body, but for
the byte that the layout of CONFIG_CHANNEL and of CONFIG_TRIGGER marks ignored (section 11.7). -/
theorem of_decode_request {kind : Byte} {body : List Byte} {r : Request}
    (h : Request.decode kind body = .request r) :
    r.kind = kind ∧ lengthAllowed kind body.length = true
      ∧ (r.body = body ∨ kind.toNat = 0x13 ∧ r.body = body.set 8 0
        ∨ kind.toNat = 0x17 ∧ r.body = body.set 4 0) := by
  unfold Request.decode at h
  split at h
  case h_32 => cases h
  all_goals
    next hk =>
    split at h
    all_goals cases h
    all_goals
      refine ⟨BitVec.eq_of_toNat_eq hk.symm, by simp [lengthAllowed, hk], ?_⟩
      simp [Request.body, TriggerEntry.bytes, lowByte_halfOf, highByte_halfOf, hk]

theorem decode_of_bad_length {kind : Byte} {body : List Byte} (hk : ¬ (kind.toNat = 0 ∨ 31 < kind.toNat))
    (hl : lengthAllowed kind body.length = false) : Request.decode kind body = .badLength := by
  cases h : Request.decode kind body with
  | request r =>
    obtain ⟨-, ha, -⟩ := of_decode_request h
    exact Bool.noConfusion (ha.symm.trans hl)
  | badKind => exact absurd h (decode_ne_badKind hk body)
  | badLength => rfl

/-- The three checks of a frame, in their order, and what a frame that passes them all is (R178). -/
theorem checkFrame_spec (kind : Byte) (body : List Byte) (sum : Byte) :
    if sum.toNat ≠ 0 then checkFrame kind body sum = .refused .checksum 0
    else if kind.toNat = 0 ∨ 31 < kind.toNat then checkFrame kind body sum = .refused .badKind kind
    else if lengthAllowed kind body.length = false then
      checkFrame kind body sum = .refused .badLength kind
    else ∃ r : Request, checkFrame kind body sum = .request r ∧ r.kind = kind
      ∧ r.body.length = body.length
      ∧ ∀ i, ¬(kind.toNat = 0x13 ∧ i = 8) → ¬(kind.toNat = 0x17 ∧ i = 4) →
          r.body[i]? = body[i]? := by
  unfold checkFrame
  by_cases hs : sum.toNat ≠ 0
  · rw [if_pos hs]
    exact if_pos fun h => hs (congrArg BitVec.toNat h)
  rw [if_neg hs, if_neg (not_not.2 (BitVec.eq_of_toNat_eq (not_not.1 hs)))]
  by_cases hk : kind.toNat = 0 ∨ 31 < kind.toNat
  · rw [if_pos hk, decode_of_bad_kind hk]
  rw [if_neg hk]
  by_cases hl : lengthAllowed kind body.length = false
  · rw [if_pos hl, decode_of_bad_length hk hl]
  rw [if_neg hl]
  obtain ⟨r, hr⟩ := decode_of_lengthAllowed ((Bool.not_eq_false _).mp hl)
  obtain ⟨hkind, -, hbody⟩ := of_decode_request hr
  refine ⟨r, by rw [hr], hkind, ?_⟩
  rcases hbody with hbody | ⟨h13, hbody⟩ | ⟨h17, hbody⟩
  · rw [hbody]
    exact ⟨rfl, fun _ _ _ => rfl⟩
  · rw [hbody]
    exact ⟨List.length_set, fun i hi _ => List.getElem?_set_ne fun h => hi ⟨h13, h.symm⟩⟩
  · rw [hbody]
    exact ⟨List.length_set, fun i _ hi => List.getElem?_set_ne fun h => hi ⟨h17, h.symm⟩⟩

/-! ### Characters (R177, R179, R180) -/

theorem takeCharacter_of_isInReset {s : State} (h : s.isInReset = true) (b : Byte) (stop : Bool) :
    s.takeCharacter b stop = s := if_pos h

section
variable {s : State}

theorem takeCharacter_of_high (h : s.isInReset = false) (b : Byte) :
    s.takeCharacter b true = s.takeByte b := by
  simp [State.takeCharacter, h]

/-- The receiver is inside a frame except in HUNT (R177). -/
theorem inFrame_eq_false_iff (v : Receiver) : v.inFrame = false ↔ v = .hunt := by
  cases v <;> simp [Receiver.inFrame]

/-- A low stop bit cuts the frame short, and does nothing in HUNT (R179). -/
theorem takeCharacter_of_low (h : s.isInReset = false) (b : Byte) :
    s.takeCharacter b false = if s.link.receiver = .hunt then s else s.truncate := by
  unfold State.takeCharacter
  rw [if_neg (by rw [h]; exact Bool.false_ne_true), if_neg Bool.false_ne_true]
  split_ifs with hin hh hh
  · exact absurd ((inFrame_eq_false_iff _).2 hh) (by rw [hin]; exact Bool.noConfusion)
  · rfl
  · rfl
  · exact absurd ((inFrame_eq_false_iff _).1 (Bool.not_eq_true _ ▸ hin)) hh

theorem exec_gapExpiry (h : s.link.receiver ≠ .hunt) : exec .gapExpiry s = .next s.truncate :=
  if_pos ((Bool.not_eq_false _).mp (mt (inFrame_eq_false_iff _).1 h))

theorem takeByte_hunt (h : s.link.receiver = .hunt) (b : Byte) :
    s.takeByte b = if b = 0xC5 then s.setReceiver .len else s := by
  rw [State.takeByte, h]

theorem takeByte_len (h : s.link.receiver = .len) (b : Byte) :
    s.takeByte b = if Config.lenMax < b.toNat then
        (s.setReceiver .hunt).frameArrives (.refused .badLength 0)
      else s.setReceiver (.kind b b) := by
  rw [State.takeByte, h]

/-- A body of length 0 is followed by CHECK at once (R177). -/
theorem takeByte_kind {len sum : Byte} (h : s.link.receiver = .kind len sum) (b : Byte) :
    s.takeByte b = if len.toNat = 0 then s.setReceiver (.check len b [] (sum + b))
      else s.setReceiver (.body len b [] len.toNat (sum + b)) := by
  rw [State.takeByte, h]
  exact if_congr BitVec.toNat_inj.symm rfl rfl

theorem takeByte_body {len kind sum : Byte} {got : List Byte} {left : Nat}
    (h : s.link.receiver = .body len kind got left sum) (b : Byte) :
    s.takeByte b = if left ≤ 1 then s.setReceiver (.check len kind (got ++ [b]) (sum + b))
      else s.setReceiver (.body len kind (got ++ [b]) (left - 1) (sum + b)) := by
  rw [State.takeByte, h]

theorem takeByte_check {len kind sum : Byte} {got : List Byte}
    (h : s.link.receiver = .check len kind got sum) (b : Byte) :
    s.takeByte b = (s.setReceiver .hunt).frameArrives (checkFrame kind got (sum + b)) := by
  rw [State.takeByte, h]

end

/-- Settles O53. -/
theorem receiverTakesBytes : Obligations.ReceiverTakesBytes := by
  refine ⟨fun s b stop h => congrArg _ (takeCharacter_of_isInReset h b stop), fun s b h => ?_⟩
  intro rx short
  refine ⟨congrArg _ (takeCharacter_of_low h b), exec_gapExpiry, ?_⟩
  have hbyte : exec (.byteArrival b true) s = .next (s.takeByte b) :=
    congrArg _ (takeCharacter_of_high h b)
  rw [hbyte]
  cases hr : s.link.receiver with
  | hunt => exact congrArg _ (takeByte_hunt hr b)
  | len => exact congrArg _ (takeByte_len hr b)
  | kind len sum => exact congrArg _ (takeByte_kind hr b)
  | body len kind got left sum =>
    have hbody := takeByte_body hr b
    refine ⟨fun hl => ?_, fun hl => ?_⟩
    · rw [hbody, if_neg (Nat.not_le.2 hl)]
      rfl
    · rw [hbody, if_pos hl.le]
      rfl
  | check len kind got sum =>
    exact ⟨_, congrArg _ (takeByte_check hr b), checkFrame_spec kind got (sum + b)⟩

end Sys2Proof.Machine
end

section
/-! The READY pin (O57). -/

namespace Sys2Proof.Machine

theorem ready_eq_true_iff (s : State) : s.ready = true ↔
    s.clk.stage = .running ∧ s.clk.resetPending = false ∧ s.link.buffered = none ∧ s.link.replies ≤ 6 := by
  simp only [State.ready, State.isRunning, Bool.and_eq_true, beq_iff_eq, Bool.not_eq_true',
    Option.isNone_iff_eq_none, decide_eq_true_eq, and_assoc]

/-- The replies queued are the frames of the outbound queue that are not notices (R185). -/
theorem replies_eq_length_filter (l : Link) : l.replies = (l.outbound.filter OutFrame.isReply).length :=
  List.countP_eq_length_filter

/-- Settles O57. -/
theorem readyPin : Obligations.ReadyPin :=
  fun s => ⟨ready_eq_true_iff s, replies_eq_length_filter s.link⟩

end Sys2Proof.Machine
end

section
/-! The frames that leave: their boundary, HOLD, and the sum of a frame's bytes (O56). -/

namespace Sys2Proof.Machine

/-! ### The frame boundary (R186, R188) -/

theorem Link.begin_eq_or (l : Link) :
    l.begin_ = { l with sending := l.sending || (!l.hold && !l.outbound.isEmpty) } := by
  rw [← Bool.not_or]
  unfold Link.begin_
  cases h : l.hold || l.outbound.isEmpty with
  | true => simp
  | false => simp

theorem acksReset_eq_false {f : OutFrame} (h : f ≠ .reply (.ack 0x1C)) : f.acksReset = false :=
  beq_eq_false_iff_ne.2 h

/-- A frame that has left frees its slot, except where it is the ACK of a pending reset (R170, R186). -/
theorem frameSent_of_stays {s : State} {f : OutFrame}
    (h : s.clk.resetPending = false ∨ f ≠ .reply (.ack 0x1C)) (rest : List OutFrame) :
    s.frameSent f rest = { s with link := { s.link with
      outbound := rest, sending := !s.link.hold && !rest.isEmpty } } := by
  have hno : (s.clk.resetPending && f.acksReset) = false := by
    rcases h with hp | hf
    · rw [hp, Bool.false_and]
    · rw [acksReset_eq_false hf, Bool.and_false]
  unfold State.frameSent
  rw [hno, if_neg Bool.false_ne_true, State.modLink, Link.begin_eq_or]
  rfl

theorem exec_frameTransmitted_of_stays {s : State} {f : OutFrame} {rest : List OutFrame}
    (hs : s.link.sending = true) (ho : s.link.outbound = f :: rest)
    (h : s.clk.resetPending = false ∨ f ≠ .reply (.ack 0x1C)) :
    exec .frameTransmitted s = .next { s with link := { s.link with
      outbound := rest, sending := !s.link.hold && !rest.isEmpty } } := by
  show execFrameTransmitted s = _
  unfold execFrameTransmitted
  rw [hs, ho]
  exact congrArg _ (frameSent_of_stays h rest)

theorem holdInput_eq (s : State) (high : Bool) : s.holdInput high = { s with link := { s.link with
    hold := high, sending := s.link.sending || (!high && !s.link.outbound.isEmpty) } } := by
  rw [State.holdInput, State.modLink, Link.begin_eq_or]

/-! ### The sum of a frame's bytes (section 11.2) -/

theorem byteSum_append_singleton (bytes : List Byte) (b : Byte) :
    byteSum (bytes ++ [b]) = byteSum bytes + b :=
  List.foldl_concat ..

theorem byteSum_toNat (bytes : List Byte) :
    (byteSum bytes).toNat = (bytes.map BitVec.toNat).sum % 256 := by
  induction bytes using List.reverseRecOn with
  | nil => rfl
  | append_singleton bytes b ih =>
    rw [byteSum_append_singleton, BitVec.toNat_add, ih, List.map_append, List.sum_append]
    simp

theorem byteSum_cons (b : Byte) (bytes : List Byte) : byteSum (b :: bytes) = bytes.foldl (· + ·) b :=
  congrArg (bytes.foldl (· + ·)) (BitVec.zero_add b)

/-- CHECK is chosen so that the bytes behind SYNC sum to 0. -/
theorem byteSum_tail_frameBytes (kind : Byte) (body : List Byte) :
    byteSum (frameBytes kind body).tail = 0 := by
  show byteSum ((BitVec.ofNat 8 body.length :: kind :: body) ++ [-byteSum _]) = 0
  rw [byteSum_append_singleton, ← BitVec.sub_eq_add_neg, BitVec.sub_self]
  rfl

theorem OutFrame.bytes_eq_frameBytes (f : OutFrame) : ∃ kind body, f.bytes = frameBytes kind body := by
  cases f with
  | reply r => exact ⟨_, _, rfl⟩
  | notice stamp n => exact ⟨_, _, rfl⟩

/-- Settles O56. -/
theorem framesLeave : Obligations.FramesLeave := by
  refine ⟨fun s f rest hs ho h => exec_frameTransmitted_of_stays hs ho h,
    fun s high => congrArg _ (holdInput_eq s high), fun f => ?_⟩
  obtain ⟨kind, body, hf⟩ := f.bytes_eq_frameBytes
  refine ⟨kind, _, body, hf, ?_⟩
  rw [← byteSum_toNat, hf, byteSum_tail_frameBytes]
  rfl

end Sys2Proof.Machine
end

section
/-! A request on the wire: the decoding of what its kind and body encode, and the run of its frame's bytes
(O54). -/

namespace Sys2Proof.Machine

/-! ### Kind and body (section 11.3) -/

theorem halfOf_lowByte_highByte (h : Half) : halfOf (lowByte h) (highByte h) = h := by
  apply BitVec.eq_of_toNat_eq
  have hlt := h.isLt
  rw [halfOf_toNat, lowByte, highByte, BitVec.toNat_setWidth, BitVec.toNat_setWidth, BitVec.toNat_ushiftRight,
    Nat.shiftRight_eq_div_pow]
  omega

/-- The eight step bytes of a matcher entry, written out. -/
theorem steps_eq_literal (steps : Vector Byte 8) : ∃ s0 s1 s2 s3 s4 s5 s6 s7,
    steps = #v[s0, s1, s2, s3, s4, s5, s6, s7] :=
  ⟨steps[0], steps[1], steps[2], steps[3], steps[4], steps[5], steps[6], steps[7], by
    ext i hi
    interval_cases i <;> rfl⟩

/-- Decoding takes back what the encoder wrote, with every operand at every value. -/
theorem decode_kind_body (r : Request) : Request.decode r.kind r.body = .request r := by
  cases r with
  | configMatcher m e =>
    obtain ⟨flags, action, targets, stepCount, steps, gap, pointer, fade, expiry⟩ := e
    obtain ⟨s0, s1, s2, s3, s4, s5, s6, s7, rfl⟩ := steps_eq_literal steps
    simp [Request.decode, Request.kind, Request.body, halfOf_lowByte_highByte]
  | configTrigger l e =>
    simp [Request.decode, Request.kind, Request.body, TriggerEntry.bytes, halfOf_lowByte_highByte]
  | _ => simp [Request.decode, Request.kind, Request.body, halfOf_lowByte_highByte]

/-- STORE_PROGRAM alone has a body whose length is not its kind's. -/
theorem length_body_le {r : Request} (h : r.wf = true) : r.body.length ≤ Config.lenMax := by
  cases r with
  | storeProgram w data =>
    have hdata : data.length ≤ 238 := of_decide_eq_true h
    show data.length + 2 ≤ 240
    omega
  | _ => simp [Request.body, TriggerEntry.bytes, Config.lenMax]

/-! ### The run of arriving bytes (R177) -/

/-- The commands of bytes that arrive one after another, each with a correct stop bit. -/
def byteArrivals (bytes : List Byte) : List Instr := bytes.map fun b => .byteArrival b true

theorem byteArrivals_cons (b : Byte) (bytes : List Byte) :
    byteArrivals (b :: bytes) = .byteArrival b true :: byteArrivals bytes := rfl

theorem run_succ {s t : State} {c : Instr} {q : List Instr} (h : exec c (s.withPending q) = .next t)
    (k : Nat) :
    Host.Core.run Sys2Proof.core (k + 1) (s.withPending (c :: q)) = Host.Core.run Sys2Proof.core k t := by
  have hstep : Sys2Proof.core.step (s.withPending (c :: q)) = .next t := h
  simp only [Host.Core.run, hstep]

section
variable {s : State}

theorem setReceiver_self {v : Receiver} (h : s.link.receiver = v) : s.setReceiver v = s := by
  rw [← h]
  rfl

/-- A byte that only moves the receiver on, taken from the queue. -/
theorem run_receiver {v w : Receiver} {b : Byte} (h : s.isInReset = false)
    (hb : ∀ t : State, t.link.receiver = v → t.takeByte b = t.setReceiver w) (q : List Instr) (k : Nat) :
    Host.Core.run Sys2Proof.core (k + 1) ((s.setReceiver v).withPending (.byteArrival b true :: q))
      = Host.Core.run Sys2Proof.core k ((s.setReceiver w).withPending q) :=
  run_succ (congrArg _ ((takeCharacter_of_high (s := (s.setReceiver v).withPending q) h b).trans
    (hb ((s.setReceiver v).withPending q) rfl))) k

/-- The bytes of a body that is not empty, from any of them on. -/
theorem run_body (h : s.isInReset = false) (len kind b : Byte) (rest got : List Byte) (sum : Byte)
    (q : List Instr) (k : Nat) :
    Host.Core.run Sys2Proof.core ((b :: rest).length + k)
        ((s.setReceiver (.body len kind got (b :: rest).length sum)).withPending
          (byteArrivals (b :: rest) ++ q))
      = Host.Core.run Sys2Proof.core k
          ((s.setReceiver (.check len kind (got ++ b :: rest) ((b :: rest).foldl (· + ·) sum))).withPending
            q) := by
  induction rest generalizing b got sum with
  | nil =>
    rw [Nat.add_comm]
    exact run_receiver h (fun t ht => (takeByte_body ht b).trans (if_pos le_rfl)) q k
  | cons c rest ih =>
    have hmore : ¬ (b :: c :: rest).length ≤ 1 := by simp
    have hfirst := run_receiver h (fun t ht => (takeByte_body (len := len) (kind := kind) (got := got)
      (sum := sum) ht b).trans (if_neg hmore)) (byteArrivals (c :: rest) ++ q) ((c :: rest).length + k)
    have hrest := ih c (got ++ [b]) (sum + b)
    rw [List.append_assoc] at hrest
    rw [List.length_cons, Nat.add_right_comm]
    exact hfirst.trans hrest

/-- KIND and the body behind it, which may be empty. -/
theorem run_kind_body (h : s.isInReset = false) {len : Byte} (kind sum : Byte) {body : List Byte}
    (hlen : len.toNat = body.length) (q : List Instr) (k : Nat) :
    Host.Core.run Sys2Proof.core ((kind :: body).length + k)
        ((s.setReceiver (.kind len sum)).withPending (byteArrivals (kind :: body) ++ q))
      = Host.Core.run Sys2Proof.core k
          ((s.setReceiver (.check len kind body ((kind :: body).foldl (· + ·) sum))).withPending q) := by
  rw [List.length_cons, Nat.add_right_comm]
  cases body with
  | nil =>
    rw [List.length_nil, Nat.zero_add]
    exact run_receiver h (fun t ht => (takeByte_kind ht kind).trans (if_pos hlen)) q k
  | cons b rest =>
    have hsome : len.toNat ≠ 0 := by simp [hlen]
    refine (run_receiver h (fun t ht => (takeByte_kind ht kind).trans (if_neg hsome))
      (byteArrivals (b :: rest) ++ q) _).trans ?_
    rw [hlen]
    exact run_body h len kind b rest [] (sum + kind) q k

/-- CHECK completes the frame: the receiver hunts again, and the frame arrives with its checks' outcome
(R178). -/
theorem run_check (h : s.isInReset = false) (hh : s.link.receiver = .hunt) (len kind : Byte)
    (got : List Byte) (sum b : Byte) (q : List Instr) :
    Host.Core.run Sys2Proof.core 1
        ((s.setReceiver (.check len kind got sum)).withPending (.byteArrival b true :: q))
      = .next ((s.withPending q).frameArrives (checkFrame kind got (sum + b))) := by
  let u : State := (s.setReceiver (.check len kind got sum)).withPending q
  have hback : u.setReceiver .hunt = s.withPending q := setReceiver_self (s := s.withPending q) hh
  have hbyte : u.takeByte b = (s.withPending q).frameArrives (checkFrame kind got (sum + b)) :=
    (takeByte_check (s := u) rfl b).trans (by rw [hback])
  exact run_succ (congrArg _ ((takeCharacter_of_high (s := u) h b).trans hbyte)) 0

/-- The bytes of a whole frame have together the effect of its arrival, with the sum 0 that CHECK makes. -/
theorem run_frameBytes (h : s.isInReset = false) (hh : s.link.receiver = .hunt) (kind : Byte)
    {body : List Byte} (hl : body.length ≤ Config.lenMax) (q : List Instr) :
    Host.Core.run Sys2Proof.core (frameBytes kind body).length
        (s.withPending (byteArrivals (frameBytes kind body) ++ q))
      = .next ((s.withPending q).frameArrives (checkFrame kind body 0)) := by
  let len : Byte := BitVec.ofNat 8 body.length
  have hlen : len.toNat = body.length :=
    Nat.mod_eq_of_lt (hl.trans_lt (by decide))
  have hlong : ¬ Config.lenMax < len.toNat := Nat.not_lt.2 (hlen.trans_le hl)
  let check : Byte := -byteSum (len :: kind :: body)
  have hzero : (kind :: body).foldl (· + ·) len + check = 0 := by
    rw [← byteSum_cons, ← byteSum_append_singleton]
    exact byteSum_tail_frameBytes kind body
  have hbytes : frameBytes kind body = 0xC5 :: len :: (kind :: body ++ [check]) := rfl
  have hcount : (frameBytes kind body).length = (kind :: body).length + 1 + 1 + 1 := by
    rw [hbytes]
    simp
  have hqueue : byteArrivals (frameBytes kind body) ++ q = .byteArrival 0xC5 true :: .byteArrival len true
      :: (byteArrivals (kind :: body) ++ .byteArrival check true :: q) := by
    rw [hbytes]
    simp [byteArrivals]
  rw [hcount, hqueue]
  calc
    _ = Host.Core.run Sys2Proof.core ((kind :: body).length + 1 + 1)
          ((s.setReceiver .len).withPending (.byteArrival len true
            :: (byteArrivals (kind :: body) ++ .byteArrival check true :: q))) := by
      conv_lhs => rw [← setReceiver_self hh]
      exact run_receiver h (fun t ht => (takeByte_hunt ht _).trans (if_pos rfl)) _ _
    _ = Host.Core.run Sys2Proof.core ((kind :: body).length + 1)
          ((s.setReceiver (.kind len len)).withPending
            (byteArrivals (kind :: body) ++ .byteArrival check true :: q)) :=
      run_receiver h (fun t ht => (takeByte_len ht len).trans (if_neg hlong)) _ _
    _ = Host.Core.run Sys2Proof.core 1
          ((s.setReceiver (.check len kind body ((kind :: body).foldl (· + ·) len))).withPending
            (.byteArrival check true :: q)) :=
      run_kind_body h kind len hlen _ 1
    _ = _ := by
      rw [run_check h hh, hzero]

end

theorem checkFrame_kind_body (r : Request) : checkFrame r.kind r.body 0 = .request r := by
  rw [checkFrame, if_neg (not_not.2 rfl), decode_kind_body]

/-- Settles O54. -/
theorem requestsSurviveTheWire : Obligations.RequestsSurviveTheWire := by
  intro r hr
  refine ⟨decode_kind_body r, length_body_le hr, fun s q h hh => ?_⟩
  rw [← checkFrame_kind_body r]
  exact run_frameBytes h hh r.kind (length_body_le hr) q

end Sys2Proof.Machine
end

section
/-! One step of the part by its queue: the front command's effect, or idling (O1; section 0.2 and log 6). -/

namespace Sys2Proof.Machine

theorem withPending_withPending (s : State) (p q : List Instr) :
    (s.withPending p).withPending q = s.withPending q := rfl

/-- Log 6. -/
theorem step_of_pending_nil {s : State} (h : s.pending = []) : step s = .next s := by
  rw [step, h]

/-- The command acts on a state that no longer holds it: what it reads of the queue is the rest alone. -/
theorem step_of_pending_cons {s : State} {c : Instr} {rest : List Instr} (h : s.pending = c :: rest) :
    step s = exec c (s.withPending rest) := by
  rw [step, h]

/-- Settles O1, by the two shapes of the queue; the queue that was put in place is replaced by its rest. -/
theorem stepTakesTheFrontCommand : Obligations.StepTakesTheFrontCommand := by
  refine ⟨fun c rest s => ?_, fun s h => step_of_pending_nil h⟩
  calc step (s.withPending (c :: rest))
      = exec c ((s.withPending (c :: rest)).withPending rest) :=
        step_of_pending_cons (s.withPending_pending (c :: rest))
    _ = exec c (s.withPending rest) := by rw [withPending_withPending]

end Sys2Proof.Machine
end
